-- ==== Sys2Proof/Word.lean ====
section
/-! DEFINITION. The word types of the framer block: the widths the spec gives, and nothing else. -/

namespace Sys2Proof

/-- A byte, `b[7:0]` (R9). -/
abbrev Byte := BitVec 8

/-- The command word `req_cmd` (R66). -/
abbrev Cmd := BitVec 16

/-- A 7-bit device register address (R7 `ADDR_BITS`, R40). -/
abbrev DevAddr := BitVec 7

/-- The 6-bit SIZE field (R66). -/
abbrev Size := BitVec 6

/-- A decoded count: a 32-bit vector that `signed_32` reads (R11, R27). -/
abbrev Count := BitVec 32

end Sys2Proof
end

