-- ==== Sys2Proof/Config.lean ====
section
/-! DEFINITION. The parameters of R7 (those the spec fixes as numbers, those it leaves OPEN as constants without a
body) and the free values of the model: constants without a body, applied to a plain counter of `State`, for every
value the spec says is a draw or says has no value (R35, R88). -/

namespace Sys2Proof.Config

/-! Parameters the spec fixes (R7, R8). -/

/-- `MAX_FRAME`: 32 bytes, the address byte included (R7, R84). -/
def maxFrame : Nat := 32

/-- `MAX_WRITE_PAYLOAD = MAX_FRAME - 1` (R7). -/
def maxWritePayload : Nat := maxFrame - 1

/-- `MAX_READ`: the largest value of the SIZE field (R7, D5). -/
def maxRead : Nat := 63

/-- `WINDOW_LEN`: the bytes of a measurement window (R7). -/
def windowLen : Nat := 9

/-- `AXIS_BYTES`: the bytes of one axis (R7). -/
def axisBytes : Nat := 3

/-- The number of device registers (R40). -/
def deviceRegisters : Nat := 128

/-! Literals of R7 that only the requester's programs use; the block never reads them. -/

/-- `ID_EXPECTED` (R7): the block does not compare with it (R85, R117). -/
def idExpected : Byte := 0x22#8

/-- `CMM_SINGLE` (R7). -/
def cmmSingle : Byte := 0x00#8

/-- `POLL_ALL` (R7). -/
def pollAll : Byte := 0x70#8

/-- `CMM_CONTINUOUS` (R7). -/
def cmmContinuous : Byte := 0x79#8

/-- `DRDY_BIT`: the data-ready bit of the status byte (R7, R139). -/
def drdyBit : Nat := 7

/-! OPEN parameters (R7, R33, D13, D14). -/

/-- `BURST_CMD`, the value the block is built with (R33). -/
opaque burstCmd : Byte

/-- `REG_ID` (R7). -/
opaque regId : DevAddr

/-- `REG_STATUS` (R7). -/
opaque regStatus : DevAddr

/-- `REG_CC_FIRST` (R7, R52). -/
opaque regCcFirst : DevAddr

/-- `REG_CMM` (R7). -/
opaque regCmm : DevAddr

/-- `REG_POLL` (R7, C3). -/
opaque regPoll : DevAddr

/-- `REG_MEAS_FIRST` (R7). -/
opaque regMeasFirst : DevAddr

/-! Free values. The first argument is the draw number, from the counter `State.draws`. -/

/-- Byte `i` of the filler of one burst exchange (R88, I1). -/
opaque fillerByte : Nat → Nat → Byte

/-- Byte `i` of a `frame` buffer that nothing has written (R29, R35). -/
opaque frameByte : Nat → Nat → Byte

/-- A `frame_len` that nothing has written (R29, R34). -/
opaque frameLen : Nat → Size

/-- A `cur_addr` that nothing has written (R29). -/
opaque curAddr : Nat → DevAddr

/-- A `cur_size` that nothing has written (R29). -/
opaque curSize : Nat → Size

/-- Byte `i` of an `rxbuf` that nothing has written (R29). -/
opaque rxByte : Nat → Nat → Byte

/-- An `rsp_status` without a value (R34, R35). -/
opaque rspStatus : Nat → BitVec 2

/-- An `rsp_len` without a value (R34, R35). -/
opaque rspLen : Nat → Size

/-- Byte `i` of an `rsp_data` without a value (R34, R35). -/
opaque rspByte : Nat → Nat → Byte

/-- An `rsp_x` without a value (R34, R35). -/
opaque rspX : Nat → Count

/-- An `rsp_y` without a value (R34, R35). -/
opaque rspY : Nat → Count

/-- An `rsp_z` without a value (R34, R35). -/
opaque rspZ : Nat → Count

/-- The level of `req_cmd` while no request has been presented yet (R26). -/
opaque reqCmd : Nat → Cmd

/-- Byte `i` of `req_data` while no request has been presented yet (R26). -/
opaque reqByte : Nat → Nat → Byte

end Sys2Proof.Config
end

