-- ==== Sys2Proof/Syntax.lean ====
section
/-! DEFINITION. The requests ("instructions") of the block: one constructor per row of the opcode table. -/

namespace Sys2Proof

/-- A command word split into its fields (R66, R68). Each constructor keeps every bit of the word that the row's
opcode leaves open, so that no bit of a command word is lost: READ_BURST, DECODE24 and DECODE_WINDOW carry the ADDR
and SIZE fields that must be 0 (R69 item 2), and the three reserved rows carry `cmd[15:3]`. -/
inductive Instr where
  /-- WRITE_REG, `OP = 0b000` (R83). -/
  | writeReg (addr : DevAddr) (size : Size)
  /-- READ_REG, `OP = 0b001` (R85). -/
  | readReg (addr : DevAddr) (size : Size)
  /-- READ_BURST, `OP = 0b010` (R87). -/
  | readBurst (addr : DevAddr) (size : Size)
  /-- DECODE24, `OP = 0b011` (R100). -/
  | decode24 (addr : DevAddr) (size : Size)
  /-- DECODE_WINDOW, `OP = 0b100` (R102). -/
  | decodeWindow (addr : DevAddr) (size : Size)
  /-- The reserved `OP = 0b101` (R69 item 1). -/
  | reservedOp5 (rest : BitVec 13)
  /-- The reserved `OP = 0b110` (R69 item 1). -/
  | reservedOp6 (rest : BitVec 13)
  /-- The reserved `OP = 0b111` (R69 item 1). -/
  | reservedOp7 (rest : BitVec 13)
  deriving DecidableEq, Repr

end Sys2Proof
end

