-- ==== Sys2Proof/Decode.lean ====
section
/-! DEFINITION. Decoding a command word (R66 to R70), its fault (R110), and the encoder. -/

namespace Sys2Proof

/-- The fault causes of R110. -/
inductive FaultCode where
  /-- A reserved OP. -/
  | illegalOp
  /-- A reserved field that is not 0. -/
  | reservedField
  /-- A write frame of more than `MAX_FRAME` bytes. -/
  | frameTooLong
  deriving DecidableEq, Repr

/-- The 2-bit code of R110, as `fault_code`, `STATUS[3:2]` and `rsp_status` show it; code 0 means no fault. -/
def FaultCode.bits : FaultCode → BitVec 2
  | .illegalOp => 1#2
  | .reservedField => 2#2
  | .frameTooLong => 3#2

/-- `OP = cmd[2:0]` (R66). -/
def opField (cmd : Cmd) : BitVec 3 := cmd.extractLsb' 0 3

/-- `ADDR = cmd[9:3]` (R66). -/
def addrField (cmd : Cmd) : DevAddr := cmd.extractLsb' 3 7

/-- `SIZE = cmd[15:10]` (R66). -/
def sizeField (cmd : Cmd) : Size := cmd.extractLsb' 10 6

/-- `cmd[15:3]`, everything but OP. -/
def restField (cmd : Cmd) : BitVec 13 := cmd.extractLsb' 3 13

/-- The request a command word names, by its OP (R68). Total: every word is one row's, with its fields as they stand.
Whether the fields are legal is `faultOf`'s question. -/
def decode (cmd : Cmd) : Instr :=
  if opField cmd = 0b000#3 then .writeReg (addrField cmd) (sizeField cmd)
  else if opField cmd = 0b001#3 then .readReg (addrField cmd) (sizeField cmd)
  else if opField cmd = 0b010#3 then .readBurst (addrField cmd) (sizeField cmd)
  else if opField cmd = 0b011#3 then .decode24 (addrField cmd) (sizeField cmd)
  else if opField cmd = 0b100#3 then .decodeWindow (addrField cmd) (sizeField cmd)
  else if opField cmd = 0b101#3 then .reservedOp5 (restField cmd)
  else if opField cmd = 0b110#3 then .reservedOp6 (restField cmd)
  else .reservedOp7 (restField cmd)

/-- RESERVED_FIELD when ADDR or SIZE is not 0 (R69 item 2). -/
def reservedFieldFault (addr : DevAddr) (size : Size) : Option FaultCode :=
  if addr = 0#7 ∧ size = 0#6 then none else some .reservedField

/-- The fault a request raises at acceptance, if any (R69, R70, R110). -/
def faultOf : Instr → Option FaultCode
  | .writeReg _ size => if Config.maxFrame < size.toNat + 1 then some .frameTooLong else none
  | .readReg _ _ => none
  | .readBurst addr size => reservedFieldFault addr size
  | .decode24 addr size => reservedFieldFault addr size
  | .decodeWindow addr size => reservedFieldFault addr size
  | .reservedOp5 _ => some .illegalOp
  | .reservedOp6 _ => some .illegalOp
  | .reservedOp7 _ => some .illegalOp

/-- The two outcomes of R70: an operation with legal fields, or exactly one fault, by its name. -/
def classify (cmd : Cmd) : Except FaultCode Instr :=
  match faultOf (decode cmd) with
  | some c => .error c
  | none => .ok (decode cmd)

/-- `cmd = (SIZE << 10) | (ADDR << 3) | OP`, as a concatenation of the fields (R66). -/
def requestWord (size : Size) (addr : DevAddr) (op : BitVec 3) : Cmd := size ++ addr ++ op

/-- The command word of a request (R66, R68). -/
def encode : Instr → Cmd
  | .writeReg addr size => requestWord size addr 0b000#3
  | .readReg addr size => requestWord size addr 0b001#3
  | .readBurst addr size => requestWord size addr 0b010#3
  | .decode24 addr size => requestWord size addr 0b011#3
  | .decodeWindow addr size => requestWord size addr 0b100#3
  | .reservedOp5 rest => rest ++ 0b101#3
  | .reservedOp6 rest => rest ++ 0b110#3
  | .reservedOp7 rest => rest ++ 0b111#3

/-- The mnemonic of the opcode table that a request stands under. -/
def mnemonicOf : Instr → String
  | .writeReg _ _ => "WRITE_REG"
  | .readReg _ _ => "READ_REG"
  | .readBurst _ _ => "READ_BURST"
  | .decode24 _ _ => "DECODE24"
  | .decodeWindow _ _ => "DECODE_WINDOW"
  | .reservedOp5 _ => "RESERVED_OP5"
  | .reservedOp6 _ => "RESERVED_OP6"
  | .reservedOp7 _ => "RESERVED_OP7"

/-- One row of the opcode map as a fixed pattern over `cmd[15:0]` (R68). -/
structure OpcodeRow where
  mnemonic : String
  bits : Cmd
  mask : Cmd
  deriving DecidableEq, Repr

/-- The row's pattern fits the word. -/
def rowMatches (row : OpcodeRow) (cmd : Cmd) : Bool := cmd &&& row.mask == row.bits

/-- The opcode map as R68 gives it in patterns, with the three reserved opcodes of R69. -/
def opcodeTable : List OpcodeRow :=
  [⟨"WRITE_REG", 0x0000#16, 0x0007#16⟩, ⟨"READ_REG", 0x0001#16, 0x0007#16⟩,
   ⟨"READ_BURST", 0x0002#16, 0xFFFF#16⟩, ⟨"DECODE24", 0x0003#16, 0xFFFF#16⟩,
   ⟨"DECODE_WINDOW", 0x0004#16, 0xFFFF#16⟩, ⟨"RESERVED_OP5", 0x0005#16, 0x0007#16⟩,
   ⟨"RESERVED_OP6", 0x0006#16, 0x0007#16⟩, ⟨"RESERVED_OP7", 0x0007#16, 0x0007#16⟩]

/-- What the decoder reads from an instruction of `nbits` bits numbered as the opcode table numbers them. A command
word is 16 bits (R66); a number with a bit above them is no command word and is refused. -/
def decodeTableWord (nbits w : Nat) : Option Instr :=
  if w % 2 ^ nbits < 2 ^ 16 then some (decode (BitVec.ofNat 16 (w % 2 ^ nbits))) else none

end Sys2Proof
end

