-- ==== Sys2Proof/Machine/Bytes.lean ====
section
/-! DEFINITION. Byte buffers of a fixed length: writing a byte sequence into the front of one, and a buffer of free
bytes. -/

namespace Sys2Proof.Machine

/-- The buffer with its first bytes replaced by `bytes`, in index order (R46); what `bytes` does not reach stays, and
what lies past the buffer's end is not written. -/
def overlay {n : Nat} (bytes : List Byte) (base : Vector Byte n) : Vector Byte n :=
  ⟨((bytes ++ base.toList.drop bytes.length).take n).toArray, by simp; omega⟩

/-- `s[0..n]`, the first `n` bytes of a buffer (R10). -/
def frontBytes {n : Nat} (count : Nat) (base : Vector Byte n) : List Byte := base.toList.take count

/-- A buffer of `n` free bytes, byte `i` being `draw i`. -/
def drawBytes (n : Nat) (draw : Nat → Byte) : Vector Byte n :=
  ⟨((List.range n).map draw).toArray, by simp⟩

end Sys2Proof.Machine
end

