-- ==== Sys2Proof/Machine/Memory.lean ====
section
/-! DEFINITION. The one address space (R40): the device register space, as far as the committed write transactions
say what it holds (R41, R42). It is a list of (address, byte) pairs, addresses strictly rising, all below 128. An
address that is not listed is one whose content nobody knows (R132, I15): it reads as no value. -/

namespace Sys2Proof.Machine

/-- What is known of the device registers. -/
abbrev Memory := List Host.Cell

/-- Addresses strictly rise and each is one of the 128 registers (R40). An unlisted address reads as no value, so no
listed byte can equal what an unlisted address reads as. -/
def Memory.wfFrom (low : Nat) : Memory → Bool
  | [] => true
  | (a, _) :: rest => decide (low ≤ a) && decide (a < Config.deviceRegisters) && Memory.wfFrom (a + 1) rest

/-- The canonical form. -/
def Memory.wf (m : Memory) : Bool := Memory.wfFrom 0 m

/-- The known content of a register, or no value. -/
def Memory.read (m : Memory) (a : Nat) : Option Byte :=
  match m with
  | [] => none
  | (b, v) :: rest => if a = b then some v else Memory.read rest a

/-- One register is written; the list stays sorted. -/
def Memory.write (m : Memory) (a : Nat) (v : Byte) : Memory :=
  match m with
  | [] => [(a, v)]
  | (b, w) :: rest =>
    if a < b then (a, v) :: (b, w) :: rest
    else if a = b then (a, v) :: rest
    else (b, w) :: Memory.write rest a v

/-- `MemWrite(a, n, s)` (R14, R41): register `a + i` receives `s[i]`. -/
def Memory.writeBytes (m : Memory) (a : Nat) (bytes : List Byte) : Memory :=
  match bytes with
  | [] => m
  | v :: rest => Memory.writeBytes (Memory.write m a v) (a + 1) rest

/-- What a write transaction does to what is known of the device: `MemWrite`, or, where a byte would go past register
0x7F, no register is known any more (R41, D30, I7, N7). -/
def Memory.commit (m : Memory) (addr : DevAddr) (payload : List Byte) : Memory :=
  if addr.toNat + payload.length ≤ Config.deviceRegisters then Memory.writeBytes m addr.toNat payload else []

end Sys2Proof.Machine
end

