-- ==== Sys2Proof/Machine/State.lean ====
section
/-! DEFINITION. The state of the block, its interfaces and what stands outside them, as plain data; the reasons a step
can stop; the state after reset. -/

namespace Sys2Proof.Machine

/-- The transport sequencer (R23). -/
inductive Phase where
  /-- No request in progress. -/
  | idle
  /-- WRITE_REG: the frame transmit is outstanding. -/
  | wFrame
  /-- READ_REG: the address-byte transmit is outstanding. -/
  | rAddr
  /-- READ_REG: the data receive is outstanding. -/
  | rData
  /-- READ_BURST: the command-byte transmit is outstanding. -/
  | bCmd
  /-- READ_BURST: the 9-byte exchange is outstanding. -/
  | bData
  /-- The response is presented and not yet taken. -/
  | resp
  deriving DecidableEq, Repr

/-- A bus operation, as its issue event names it (R13, R82). -/
inductive BusOp where
  /-- `TX(s)`. -/
  | tx (bytes : List Byte)
  /-- `RX(n)`. -/
  | rx (count : Nat)
  /-- `XFER(s)`. -/
  | xfer (bytes : List Byte)
  deriving DecidableEq, Repr

/-- The events of the two interfaces (R6, R82, R90, D1). -/
inductive Event where
  /-- A request is accepted (D1). -/
  | accept (cmd : Cmd)
  /-- `CS_ASSERT`. -/
  | csAssert
  /-- `CS_DEASSERT`. -/
  | csDeassert
  /-- `TX(s)`, `RX(n)` or `XFER(s)`. -/
  | issue (op : BusOp)
  /-- `DONE`, the completion of a `TX`. -/
  | done
  /-- `DONE(d)`, the completion of an `RX` or an `XFER`. -/
  | doneData (bytes : List Byte)
  /-- `RESP(OK)`. -/
  | respOk
  /-- `RESP(OK, d)`. -/
  | respData (bytes : List Byte)
  /-- `RESP(OK, x)`. -/
  | respCount (x : Count)
  /-- `RESP(OK, x, y, z)`. -/
  | respCounts (x y z : Count)
  /-- `RESP(code)`. -/
  | respFault (code : BitVec 2)
  /-- `TAKE`. -/
  | take
  /-- The block is reset: the model's own mark in the event record (R93's last row has no event of its own). -/
  | reset
  deriving DecidableEq, Repr

/-- What can reach the block, or its device, from outside in one step. -/
inductive Input where
  /-- The requester presents a request: `req_valid = 1` with this command word and data (R26). -/
  | present (cmd : Cmd) (data : Vector Byte 63)
  /-- The requester takes the presented request back: `req_valid = 0`. -/
  | withdraw
  /-- `rsp_take = 1` in this step (R27). -/
  | take
  /-- The platform reports the outstanding operation finished, with the received bytes (none for a `TX`) (R82). -/
  | done (bytes : List Byte)
  /-- The platform reports finished an operation that a reset abandoned (R131). -/
  | lateDone
  /-- Reset (R130). -/
  | reset
  /-- The device loses power (R132, I15). Inside an open write window the spec is silent: log entry 13. -/
  | devicePowerLoss
  deriving DecidableEq, Repr

/-- The machine. -/
structure State where
  /-- `cs_n`, the chip-select output, active low: `true` is 1, deselected (R22). -/
  csN : Bool
  /-- `phase` (R23). -/
  phase : Phase
  /-- `faulted` (R24). -/
  faulted : Bool
  /-- `fault_code` (R24). -/
  faultCode : BitVec 2
  /-- `req_valid` (R26). -/
  reqValid : Bool
  /-- `req_cmd` (R26). -/
  reqCmd : Cmd
  /-- `req_data` (R26). -/
  reqData : Vector Byte 63
  /-- `rsp_status` (R27). -/
  rspStatus : BitVec 2
  /-- `rsp_len` (R27). -/
  rspLen : Size
  /-- `rsp_data` (R27). -/
  rspData : Vector Byte 63
  /-- `rsp_x` (R27). -/
  rspX : Count
  /-- `rsp_y` (R27). -/
  rspY : Count
  /-- `rsp_z` (R27). -/
  rspZ : Count
  /-- `frame` (R29). -/
  frame : Vector Byte 32
  /-- `frame_len` (R29). -/
  frameLen : Size
  /-- `cur_addr` (R29). -/
  curAddr : DevAddr
  /-- `cur_size` (R29). -/
  curSize : Size
  /-- `rxbuf` (R29). -/
  rxbuf : Vector Byte 63
  /-- The bus-operation channel: the outstanding operation, if there is one (R28, R34). -/
  busOp : Option BusOp
  /-- `BURST_CMD`, the build-time parameter (R33, R34). No step writes it. -/
  burstCmd : Byte
  /-- What is known of the device registers (R40 to R42, R131, R132). -/
  device : Memory
  /-- How many operations a reset has abandoned whose completion has not arrived yet (R131). -/
  abandoned : Nat
  /-- The events so far, oldest first (R6). -/
  events : List Event
  /-- What will reach the block from outside, in this order. The model's own field. -/
  inputs : List Input
  /-- How many sets of free values have been drawn. The model's own field. -/
  draws : Nat
  deriving DecidableEq, Repr

/-- The reasons no step is enabled: the stuck states. None of them is a fault of the block (R110): `faulted` is not
involved, and nothing is changed. All are safe: nothing can be claimed about a next state that does not exist. -/
inductive Fault where
  /-- Raised by `step` when a bus operation is outstanding and nothing more will ever arrive from outside: the hang of
  R118. Safe. -/
  | hang
  /-- Raised by `step` in phase IDLE, not faulted, when no request is presented and nothing more will arrive (R130).
  Safe. -/
  | waitRequest
  /-- Raised by `step` in phase RESP when the response is never taken (R141). Safe. -/
  | waitTake
  /-- Raised by `step` in phase IDLE, faulted, when no reset will arrive: only reset is enabled there (R114). Safe. -/
  | waitReset
  deriving DecidableEq, Repr

/-- The reasons the model has no meaning for what it is given. -/
inductive Refusal where
  /-- Raised by an arm of `exec` whose request has no meaning yet. Safe. No arm raises it. -/
  | notModelled (mnemonic : String)
  /-- Raised by a completion when no operation is outstanding (or, for a late one, none was abandoned): it cannot
  happen, and R93 and I16 let a model refuse it. Safe. -/
  | completionWithoutOperation
  /-- Raised by a completion whose bytes are not as many as the operation receives: it cannot happen (R82). Safe. -/
  | completionLength
  deriving DecidableEq, Repr

/-- The block right after reset (R34, R130): what the table of R34 gives, free values (draw 0) where it says "no
value", nothing known of the device (R132), nothing presented and nothing to come from outside. -/
def State.reset : State where
  csN := true
  phase := .idle
  faulted := false
  faultCode := 0#2
  reqValid := false
  reqCmd := Config.reqCmd 0
  reqData := drawBytes 63 (Config.reqByte 0)
  rspStatus := Config.rspStatus 0
  rspLen := Config.rspLen 0
  rspData := drawBytes 63 (Config.rspByte 0)
  rspX := Config.rspX 0
  rspY := Config.rspY 0
  rspZ := Config.rspZ 0
  frame := drawBytes 32 (Config.frameByte 0)
  frameLen := Config.frameLen 0
  curAddr := Config.curAddr 0
  curSize := Config.curSize 0
  rxbuf := drawBytes 63 (Config.rxByte 0)
  busOp := none
  burstCmd := Config.burstCmd
  device := []
  abandoned := 0
  events := []
  inputs := []
  draws := 1

end Sys2Proof.Machine
end

