-- ==== Sys2Proof/Machine/Flags.lean ====
section
/-! DEFINITION. The flags and the outputs that are views of the state: STATUS, `req_ready`, `rsp_valid` (R25 to R27,
R31). The block has no condition codes. -/

namespace Sys2Proof.Machine

/-- `BUSY`: `phase` is not IDLE (R25). -/
def State.busy (s : State) : Bool := s.phase != .idle

/-- `STATUS`: bit 0 BUSY, bit 1 FAULTED, bits 3:2 FAULT_CODE, bits 7:4 zero (R25). -/
def State.status (s : State) : Byte :=
  0#4 ++ s.faultCode ++ BitVec.ofBool s.faulted ++ BitVec.ofBool s.busy

/-- `req_ready`: `phase = IDLE` and `faulted = 0` (R26). -/
def State.reqReady (s : State) : Bool := s.phase == .idle && !s.faulted

/-- `rsp_valid`: `phase = RESP` (R27). -/
def State.rspValid (s : State) : Bool := s.phase == .resp

/-- `rsp_data[0..rsp_len]`, the meaningful received bytes (R27). -/
def State.rspBytes (s : State) : List Byte := frontBytes s.rspLen.toNat s.rspData

end Sys2Proof.Machine
end

