-- ==== Sys2Proof/Machine/Operands.lean ====
section
/-! DEFINITION. The operand forms: the address byte and the frames (R60 to R64), the bytes of `req_data` a request
reads (R67), and the decoder's assembly of an axis (R71, R100). -/

namespace Sys2Proof.Machine

/-- The address byte `A = {addr[6:0], 0b0}` (R61). Reads and writes use the same one (R92). -/
def addrByte (addr : DevAddr) : Byte := addr ++ 0#1

/-- How many bytes of `req_data` a request reads, from its front (R67). -/
def operandCount : Instr → Nat
  | .writeReg _ size => size.toNat
  | .readReg _ _ => 0
  | .readBurst _ _ => 0
  | .decode24 _ _ => Config.axisBytes
  | .decodeWindow _ _ => Config.windowLen
  | .reservedOp5 _ => 0
  | .reservedOp6 _ => 0
  | .reservedOp7 _ => 0

/-- The payload of a WRITE_REG, `req_data[0..SIZE]` (R67). -/
def payload (size : Size) (s : State) : List Byte := frontBytes size.toNat s.reqData

/-- The write frame `[A] ++ payload` (R62). -/
def writeFrame (addr : DevAddr) (size : Size) (s : State) : List Byte := addrByte addr :: payload size s

/-- The frame in the `frame` buffer, as the `TX` of W_FRAME reads it (R29). -/
def sentFrame (s : State) : List Byte := frontBytes s.frameLen.toNat s.frame

/-- The 24-bit field `{b2, b1, b0}` (R71). -/
def axisField (b2 b1 b0 : Byte) : BitVec 24 := b2 ++ b1 ++ b0

/-- The decoder's algorithm for one axis, as R100 writes it. -/
def decodeAxis (b2 b1 b0 : Byte) : Count :=
  let signByte : Byte := if b2.getLsbD 7 then 0xFF#8 else 0x00#8
  (signByte.setWidth 32 <<< 24) ||| (b2.setWidth 32 <<< 16) ||| (b1.setWidth 32 <<< 8) ||| b0.setWidth 32

/-- The X lane, and the axis of DECODE24: `req_data[0..3]` (R67, R71). -/
def laneX (s : State) : Count := decodeAxis s.reqData[0] s.reqData[1] s.reqData[2]

/-- The Y lane: `req_data[3..6]` (R71, R102). -/
def laneY (s : State) : Count := decodeAxis s.reqData[3] s.reqData[4] s.reqData[5]

/-- The Z lane: `req_data[6..9]` (R71, R102). -/
def laneZ (s : State) : Count := decodeAxis s.reqData[6] s.reqData[7] s.reqData[8]

/-- The filler of one burst exchange: 9 free bytes (R64, R88). -/
def filler (s : State) : List Byte := (List.range Config.windowLen).map (Config.fillerByte s.draws)

/-- How many bytes the completion of an operation carries (R82). -/
def replyLength : BusOp → Nat
  | .tx _ => 0
  | .rx count => count
  | .xfer bytes => bytes.length

/-- The completion event of an operation (R82): `DONE` for a `TX`, `DONE(d)` for the others. -/
def doneEvent (op : BusOp) (bytes : List Byte) : Event :=
  match op with
  | .tx _ => .done
  | .rx _ => .doneData bytes
  | .xfer _ => .doneData bytes

end Sys2Proof.Machine
end

