-- ==== Sys2Proof/Machine/Ops.lean ====
section
/-! DEFINITION. The named operations of the block: recording events, driving chip-select, issuing and finishing a bus
operation, responding, entering a fault (R112), and reset (R130), the only way out of one (R114). -/

namespace Sys2Proof.Machine

/-- Events are recorded in order (R6). -/
def State.record (s : State) (es : List Event) : State := { s with events := s.events ++ es }

/-- What is still to come from outside. -/
def State.setInputs (s : State) (rest : List Input) : State := { s with inputs := rest }

/-- Every register of one request and every response field loses its value: each becomes a free value of the next
draw (R29, R34, R35). -/
def State.forget (s : State) : State :=
  { s with
    rspStatus := Config.rspStatus s.draws
    rspLen := Config.rspLen s.draws
    rspData := drawBytes 63 (Config.rspByte s.draws)
    rspX := Config.rspX s.draws
    rspY := Config.rspY s.draws
    rspZ := Config.rspZ s.draws
    frame := drawBytes 32 (Config.frameByte s.draws)
    frameLen := Config.frameLen s.draws
    curAddr := Config.curAddr s.draws
    curSize := Config.curSize s.draws
    rxbuf := drawBytes 63 (Config.rxByte s.draws)
    draws := s.draws + 1 }

/-- Acceptance of the presented request (R26, R80): the handshake completes, and nothing of an earlier request is
left (R29). -/
def State.beginRequest (s : State) : State :=
  { s.forget with reqValid := false }.record [.accept s.reqCmd]

/-- `CsSet(0)` (R13). -/
def State.csAssert (s : State) : State := { s with csN := false }.record [.csAssert]

/-- `CsSet(1)` (R13). -/
def State.csDeassert (s : State) : State := { s with csN := true }.record [.csDeassert]

/-- A bus operation is issued and the sequencer waits for it in `phase` (R82). -/
def State.issue (s : State) (phase : Phase) (op : BusOp) : State :=
  { s with phase := phase, busOp := some op }.record [.issue op]

/-- The outstanding operation has completed (R82). -/
def State.retire (s : State) (op : BusOp) (bytes : List Byte) : State :=
  { s with busOp := none }.record [doneEvent op bytes]

/-- The first bus operation of a transaction: `CS_ASSERT`, then its issue (R81). -/
def State.startTransaction (s : State) (phase : Phase) (op : BusOp) : State := s.csAssert.issue phase op

/-- Response OK without data: `rsp_len = 0` (R83). -/
def State.respondOk (s : State) : State :=
  { s with rspStatus := 0#2, rspLen := 0#6, phase := .resp }.record [.respOk]

/-- Response OK with received bytes (R85, R87). -/
def State.respondData (s : State) (len : Size) (bytes : List Byte) : State :=
  { s with rspStatus := 0#2, rspLen := len, rspData := overlay bytes s.rspData, phase := .resp }.record
    [.respData bytes]

/-- Response OK with one count; only `rsp_status` and `rsp_x` are written (R100). -/
def State.respondCount (s : State) (x : Count) : State :=
  { s with rspStatus := 0#2, rspX := x, phase := .resp }.record [.respCount x]

/-- Response OK with three counts (R102). -/
def State.respondCounts (s : State) (x y z : Count) : State :=
  { s with rspStatus := 0#2, rspX := x, rspY := y, rspZ := z, phase := .resp }.record [.respCounts x y z]

/-- Fault entry, `raise Fault(c)` (R112): the fault record is set, the response carries the code, the chip-select line
and the bus are left alone. -/
def State.takeFault (s : State) (c : FaultCode) : State :=
  { s with faulted := true, faultCode := c.bits, rspStatus := c.bits, rspLen := 0#6, phase := .resp }.record
    [.respFault c.bits]

/-- How many operations a reset of this state abandons: the outstanding one, if there is one (R131). -/
def abandonedNow (s : State) : Nat :=
  match s.busOp with
  | none => 0
  | some _ => 1

/-- The events of a reset: the model's mark, and `CS_DEASSERT` where the reset ends a chip-select window (R131, test
program P4). -/
def resetEvents (s : State) : List Event :=
  match s.csN with
  | true => [.reset]
  | false => [.reset, .csDeassert]

/-- Reset (R130 to R132). The build-time parameter, the levels the requester drives, the event record and what is still
to come from outside are not the block's to reset. -/
def State.resetBlock (s : State) : State :=
  { s.forget with
    csN := true
    phase := .idle
    faulted := false
    faultCode := 0#2
    busOp := none
    device := []
    abandoned := s.abandoned + abandonedNow s }.record (resetEvents s)

/-- The acceptance action of a request with a body (R70, R80, R111): the fault it raises, or else its operation. -/
def faultOr (i : Instr) (s : State) (run : State → State) : Host.Outcome State Fault Refusal :=
  match faultOf i with
  | some c => .next (s.takeFault c)
  | none => .next (run s)

end Sys2Proof.Machine
end

