-- ==== Sys2Proof/Machine/Decoder.lean ====
section
/-! DEFINITION. The decoder requests (R100 to R105): each completes in its acceptance step. -/

namespace Sys2Proof.Machine

/-- DECODE24 (R100). -/
def execDecode24 (addr : DevAddr) (size : Size) (s : State) : Host.Outcome State Fault Refusal :=
  faultOr (.decode24 addr size) s fun s => s.respondCount (laneX s)

/-- DECODE_WINDOW (R102). -/
def execDecodeWindow (addr : DevAddr) (size : Size) (s : State) : Host.Outcome State Fault Refusal :=
  faultOr (.decodeWindow addr size) s fun s => s.respondCounts (laneX s) (laneY s) (laneZ s)

end Sys2Proof.Machine
end

