-- ==== Sys2Proof/Machine/Reserved.lean ====
section
/-! DEFINITION. The reserved opcodes: each takes the fault ILLEGAL_OP (R69 item 1, R110), whatever the rest of the
word holds. -/

namespace Sys2Proof.Machine

/-- `OP = 0b101`. -/
def execReservedOp5 (_rest : BitVec 13) (s : State) : Host.Outcome State Fault Refusal :=
  .next (s.takeFault .illegalOp)

/-- `OP = 0b110`. -/
def execReservedOp6 (_rest : BitVec 13) (s : State) : Host.Outcome State Fault Refusal :=
  .next (s.takeFault .illegalOp)

/-- `OP = 0b111`. -/
def execReservedOp7 (_rest : BitVec 13) (s : State) : Host.Outcome State Fault Refusal :=
  .next (s.takeFault .illegalOp)

end Sys2Proof.Machine
end

