-- ==== Sys2Proof/Machine/Transport.lean ====
section
/-! DEFINITION. The transport requests (R83 to R88): what each does in its acceptance step (R93). What follows when the
bus operations complete is in Machine/Sequencer.lean. -/

namespace Sys2Proof.Machine

/-- WRITE_REG without a fault: the frame is built, and its one transmit is issued in a new window (R83). -/
def startWrite (addr : DevAddr) (size : Size) (s : State) : State :=
  { s with
    frame := overlay (writeFrame addr size s) s.frame
    frameLen := size + 1#6 }.startTransaction .wFrame (.tx (writeFrame addr size s))

/-- READ_REG: address and size are latched, and the address byte is transmitted in a new window (R85). -/
def startRead (addr : DevAddr) (size : Size) (s : State) : State :=
  { s with curAddr := addr, curSize := size }.startTransaction .rAddr (.tx [addrByte addr])

/-- READ_BURST without a fault: the command byte is transmitted, unchanged, in a new window (R87). -/
def startBurst (s : State) : State := s.startTransaction .bCmd (.tx [s.burstCmd])

/-- WRITE_REG (R83, R84). -/
def execWriteReg (addr : DevAddr) (size : Size) (s : State) : Host.Outcome State Fault Refusal :=
  faultOr (.writeReg addr size) s (startWrite addr size)

/-- READ_REG (R85, R86). -/
def execReadReg (addr : DevAddr) (size : Size) (s : State) : Host.Outcome State Fault Refusal :=
  faultOr (.readReg addr size) s (startRead addr size)

/-- READ_BURST (R87, R69 item 2). -/
def execReadBurst (addr : DevAddr) (size : Size) (s : State) : Host.Outcome State Fault Refusal :=
  faultOr (.readBurst addr size) s startBurst

end Sys2Proof.Machine
end

