-- ==== Sys2Proof/Machine/Dispatch.lean ====
section
/-! DEFINITION. One arm per request. -/

namespace Sys2Proof.Machine

/-- The acceptance action of a request (R80, R93). `step` calls it in the state `beginRequest` leaves. -/
def exec (i : Instr) (s : State) : Host.Outcome State Fault Refusal :=
  match i with
  | .writeReg addr size => Sys2Proof.Machine.execWriteReg addr size s
  | .readReg addr size => Sys2Proof.Machine.execReadReg addr size s
  | .readBurst addr size => Sys2Proof.Machine.execReadBurst addr size s
  | .decode24 addr size => Sys2Proof.Machine.execDecode24 addr size s
  | .decodeWindow addr size => Sys2Proof.Machine.execDecodeWindow addr size s
  | .reservedOp5 rest => Sys2Proof.Machine.execReservedOp5 rest s
  | .reservedOp6 rest => Sys2Proof.Machine.execReservedOp6 rest s
  | .reservedOp7 rest => Sys2Proof.Machine.execReservedOp7 rest s

end Sys2Proof.Machine
end

