-- ==== Sys2Proof/Machine/Sequencer.lean ====
section
/-! DEFINITION. The rest of the step relation (R93): what a completion, a take, a reset and the other things that reach
the block from outside do, which of them the next step takes, and why no step is enabled when none is. -/

namespace Sys2Proof.Machine

/-- The window closes after the last operation (R81). -/
def State.endTransaction (s : State) (op : BusOp) (bytes : List Byte) : State := (s.retire op bytes).csDeassert

/-- The device commits the write transaction that has just been deasserted, all bytes at once (R41, R42): the first
byte of the frame names the register, the others are its new contents. -/
def State.commitFrame (s : State) : State :=
  match sentFrame s with
  | [] => s
  | a :: bytes => { s with device := s.device.commit (a.extractLsb' 1 7) bytes }

/-- W_FRAME, `DONE` (R83, R93). -/
def writeDone (op : BusOp) (bytes : List Byte) (s : State) : State :=
  (s.endTransaction op bytes).commitFrame.respondOk

/-- R_ADDR, `DONE` (R85, R86, R93): the receive, or, when `cur_size = 0`, the end of the window. -/
def readAddrDone (op : BusOp) (bytes : List Byte) (s : State) : State :=
  if s.curSize = 0#6 then (s.endTransaction op bytes).respondData 0#6 []
  else (s.retire op bytes).issue .rData (.rx s.curSize.toNat)

/-- R_DATA, `DONE(d)` (R85, R93). -/
def readDataDone (op : BusOp) (bytes : List Byte) (s : State) : State :=
  ({ s with rxbuf := overlay bytes s.rxbuf }.endTransaction op bytes).respondData s.curSize bytes

/-- B_CMD, `DONE` (R87, R93): the filler is drawn and the exchange issued. -/
def burstCmdDone (op : BusOp) (bytes : List Byte) (s : State) : State :=
  { (s.retire op bytes).issue .bData (.xfer (filler s)) with draws := s.draws + 1 }

/-- B_DATA, `DONE(d)` (R87, R93). -/
def burstDataDone (op : BusOp) (bytes : List Byte) (s : State) : State :=
  ({ s with rxbuf := overlay bytes s.rxbuf }.endTransaction op bytes).respondData 9#6 bytes

/-- The platform reports the outstanding operation finished (R82, R93). -/
def onDone (bytes : List Byte) (s : State) : Host.Outcome State Fault Refusal :=
  match s.busOp with
  | none => .refused .completionWithoutOperation
  | some op =>
    if bytes.length ≠ replyLength op then .refused .completionLength
    else
      match s.phase with
      | .idle => .refused .completionWithoutOperation
      | .wFrame => .next (writeDone op bytes s)
      | .rAddr => .next (readAddrDone op bytes s)
      | .rData => .next (readDataDone op bytes s)
      | .bCmd => .next (burstCmdDone op bytes s)
      | .bData => .next (burstDataDone op bytes s)
      | .resp => .refused .completionWithoutOperation

/-- `rsp_take = 1` (R27, R93): the response is taken, and its fields have no value any more (R29, R34). Where no
response is presented it does nothing. -/
def onTake (s : State) : State :=
  match s.phase with
  | .resp => { s.forget with phase := .idle }.record [.take]
  | _ => s

/-- A completion for an operation that a reset abandoned is ignored (R131). -/
def onLateDone (s : State) : Host.Outcome State Fault Refusal :=
  if s.abandoned = 0 then .refused .completionWithoutOperation
  else .next { s with abandoned := s.abandoned - 1 }

/-- What reaches the block from outside, one at a time. DESIGN CHOICE (log entry 13): a device power loss forgets what is
known of the device at that moment and nothing else. The spec does not treat a power loss inside an open write window:
here the window goes on, and its `DONE` still commits the whole frame, so that those registers are known again.
Unsafe. -/
def onInput (i : Input) (s : State) : Host.Outcome State Fault Refusal :=
  match i with
  | .present cmd data => .next { s with reqValid := true, reqCmd := cmd, reqData := data }
  | .withdraw => .next { s with reqValid := false }
  | .take => .next (onTake s)
  | .done bytes => onDone bytes s
  | .lateDone => onLateDone s
  | .reset => .next s.resetBlock
  | .devicePowerLoss => .next { s with device := [] }

/-- What the next step is: the acceptance of the presented request, something from outside, or nothing. -/
inductive Move where
  | accept
  | input (i : Input) (rest : List Input)
  | stuck
  deriving DecidableEq, Repr

/-- A reset comes first (R130). Else a request that is presented while `req_ready = 1` is accepted in this very step
(R26, R80). Else the block waits for what comes next from outside; a presented request it cannot accept stays
presented (R80). -/
def nextMove (s : State) : Move :=
  match s.inputs with
  | .reset :: rest => .input .reset rest
  | [] => if s.reqReady && s.reqValid then .accept else .stuck
  | i :: rest => if s.reqReady && s.reqValid then .accept else .input i rest

/-- Why nothing is enabled, by phase (R93, R114, R118). -/
def stuckReason (s : State) : Fault :=
  match s.phase with
  | .idle => if s.faulted then .waitReset else .waitRequest
  | .wFrame => .hang
  | .rAddr => .hang
  | .rData => .hang
  | .bCmd => .hang
  | .bData => .hang
  | .resp => .waitTake

/-- The request port's levels with a command word presented and 63 zero data bytes. -/
def presentWord (nbits w : Nat) (s : State) : State :=
  { s with reqValid := true, reqCmd := BitVec.ofNat 16 (w % 2 ^ nbits), reqData := Vector.replicate 63 0#8 }

end Sys2Proof.Machine
end

