-- ==== Sys2Proof/Machine/Step.lean ====
section
/-! DEFINITION. One step of the machine (R93), and how the host places a request where the next step takes it. -/

namespace Sys2Proof.Machine

/-- One step: the acceptance of the presented request, or what comes next from outside, or none. -/
def step (s : State) : Host.Outcome State Fault Refusal :=
  match nextMove s with
  | .accept => exec (decode s.reqCmd) s.beginRequest
  | .input i rest => onInput i (s.setInputs rest)
  | .stuck => .fault (stuckReason s)

/-- The command word is put on the request port with `req_valid = 1` (R26), so that the next step accepts it when the
block is ready (`req_ready = 1`) and no reset comes first. -/
def State.withFetchWord (s : State) (nbits w : Nat) : State := presentWord nbits w s

end Sys2Proof.Machine
end

