-- ==== Sys2Proof/Machine/Assembler.lean ====
section
/-! DEFINITION. The request syntax of R72 and the pseudo-request of R73, from a line's parts to the command word and
the operand bytes. It has no effect on the hardware (D25): it is how a requester writes its requests down. -/

namespace Sys2Proof.Machine

/-- The parameter names an address may be written with (R7, R72). -/
inductive RegName where
  | id
  | status
  | ccFirst
  | cmm
  | poll
  | measFirst
  deriving DecidableEq, Repr

/-- The address a name stands for (R7, D14). -/
def regAddress : RegName → DevAddr
  | .id => Config.regId
  | .status => Config.regStatus
  | .ccFirst => Config.regCcFirst
  | .cmm => Config.regCmm
  | .poll => Config.regPoll
  | .measFirst => Config.regMeasFirst

/-- An address as a line writes it: a number, or a parameter name with an offset (test program P1 writes
`REG_CC_FIRST + 1`). -/
inductive AddrArg where
  | number (n : Nat)
  | named (name : RegName) (offset : Nat)
  deriving DecidableEq, Repr

/-- The number an address argument stands for. -/
def addrValue : AddrArg → Nat
  | .number n => n
  | .named name offset => (regAddress name).toNat + offset

/-- One request line (R72, R73). -/
inductive AsmLine where
  | wreg (addr : AddrArg) (bytes : List Nat)
  | rreg (addr : AddrArg) (count : Nat)
  | rburst
  | dec24 (bytes : List Nat)
  | decwin (bytes : List Nat)
  | wcc (count : Nat)
  deriving DecidableEq, Repr

/-- Why an assembler refuses a line (R72; the last, R73: a cycle count has 16 bits). -/
inductive AsmError where
  | addressTooLarge
  | byteTooLarge
  | payloadTooLong
  | sizeTooLarge
  | wrongLength
  | countTooLarge
  deriving DecidableEq, Repr

/-- A request: its command word and the operand bytes for the front of `req_data`. -/
structure AsmRequest where
  cmd : Cmd
  operands : List Byte
  deriving DecidableEq, Repr

/-- An address above 0x7F is refused. -/
def asmAddress (a : AddrArg) : Except AsmError DevAddr :=
  if addrValue a < Config.deviceRegisters then .ok (BitVec.ofNat 7 (addrValue a)) else .error .addressTooLarge

/-- A byte above 0xFF is refused. -/
def asmBytes (bytes : List Nat) : Except AsmError (List Byte) :=
  if bytes.all (fun b => decide (b < 256)) then .ok (bytes.map (BitVec.ofNat 8)) else .error .byteTooLarge

/-- `WREG` with the address already a register: at most 31 bytes. -/
def asmWrite (addr : DevAddr) (bytes : List Byte) : Except AsmError AsmRequest :=
  if bytes.length ≤ Config.maxWritePayload then
    .ok ⟨encode (.writeReg addr (BitVec.ofNat 6 bytes.length)), bytes⟩
  else .error .payloadTooLong

/-- A decode line: its list has one length only. -/
def asmDecode (i : Instr) (length : Nat) (bytes : List Byte) : Except AsmError AsmRequest :=
  if bytes.length = length then .ok ⟨encode i, bytes⟩ else .error .wrongLength

/-- The six bytes of a cycle count: the high and low byte once per axis (R73, C2). -/
def cycleCountBytes (count : BitVec 16) : List Byte :=
  let high := count.extractLsb' 8 8
  let low := count.extractLsb' 0 8
  [high, low, high, low, high, low]

/-- `(high << 8) | low` (R47). -/
def cycleCountOf (high low : Byte) : BitVec 16 := (high.setWidth 16 <<< 8) ||| low.setWidth 16

/-- The request a line stands for (R72, R73). -/
def assemble (line : AsmLine) : Except AsmError AsmRequest :=
  match line with
  | .wreg a bytes =>
    match asmAddress a, asmBytes bytes with
    | .ok addr, .ok bs => asmWrite addr bs
    | .error e, _ => .error e
    | .ok _, .error e => .error e
  | .rreg a count =>
    match asmAddress a with
    | .ok addr =>
      if count ≤ Config.maxRead then .ok ⟨encode (.readReg addr (BitVec.ofNat 6 count)), []⟩
      else .error .sizeTooLarge
    | .error e => .error e
  | .rburst => .ok ⟨encode (.readBurst 0#7 0#6), []⟩
  | .dec24 bytes =>
    match asmBytes bytes with
    | .ok bs => asmDecode (.decode24 0#7 0#6) Config.axisBytes bs
    | .error e => .error e
  | .decwin bytes =>
    match asmBytes bytes with
    | .ok bs => asmDecode (.decodeWindow 0#7 0#6) Config.windowLen bs
    | .error e => .error e
  | .wcc count =>
    if count < 2 ^ 16 then asmWrite Config.regCcFirst (cycleCountBytes (BitVec.ofNat 16 count))
    else .error .countTooLarge

end Sys2Proof.Machine
end

