-- ==== Sys2Proof/WellFormed.lean ====
section
/-! DEFINITION. Which requests are legal: those whose command word selects one of the five operations with legal
fields (R68). An ill-formed request still has a meaning, the fault of R110. -/

namespace Sys2Proof

/-- ADDR and SIZE are both 0, as READ_BURST, DECODE24 and DECODE_WINDOW require (R66, R68). -/
def fieldsAreZero (addr : DevAddr) (size : Size) : Bool :=
  addr == 0#7 && size == 0#6

/-- The request is legal (R68): a write of at most `MAX_WRITE_PAYLOAD` bytes, any read, a burst or a decode with its
reserved fields 0. No reserved opcode is legal. -/
def Instr.wellFormed : Instr → Bool
  | .writeReg _ size => decide (size.toNat ≤ Config.maxWritePayload)
  | .readReg _ _ => true
  | .readBurst addr size => fieldsAreZero addr size
  | .decode24 addr size => fieldsAreZero addr size
  | .decodeWindow addr size => fieldsAreZero addr size
  | .reservedOp5 _ => false
  | .reservedOp6 _ => false
  | .reservedOp7 _ => false

end Sys2Proof
end

