-- ==== Sys2Proof/Safety.lean ====
section
/-! DEFINITION. What a safe run of the block is: the chip-select protocol as a monitor over the events, the invariant
of the reachable states, the rows of the step relation of R93 read as a relation on two states, and the one constraint
the spec puts on the device's answers. -/

namespace Sys2Proof.Safety

open Sys2Proof.Machine

/-! The protocol monitor. -/

/-- Where an event record stands in the protocol of R55, R81 and R90. -/
inductive Monitor where
  /-- Chip-select high, no request in progress. -/
  | quiet
  /-- A request has just been accepted. -/
  | accepted
  /-- Chip-select low, no operation issued yet. -/
  | selected
  /-- Chip-select low, an operation outstanding. -/
  | busy (op : BusOp)
  /-- Chip-select low, the transmit complete. -/
  | sent
  /-- Chip-select low, the receive or exchange complete. -/
  | received
  /-- Chip-select high again, the response not yet presented. -/
  | released
  /-- The response presented, not yet taken. -/
  | responded
  /-- Chip-select low, the block reset. -/
  | cut
  deriving DecidableEq, Repr

/-- The transmit that opens a transaction: 1 to `MAX_FRAME` bytes (R60, R62). -/
def opensTransaction : BusOp → Bool
  | .tx bytes => decide (1 ≤ bytes.length) && decide (bytes.length ≤ Config.maxFrame)
  | .rx _ => false
  | .xfer _ => false

/-- The second operation of a transaction: a receive of 1 to 63 bytes, or the 9-byte exchange (R60, R63, R64). -/
def continuesTransaction : BusOp → Bool
  | .tx _ => false
  | .rx count => decide (1 ≤ count) && decide (count ≤ Config.maxRead)
  | .xfer bytes => decide (bytes.length = Config.windowLen)

/-- The completion event that answers an outstanding operation, with as many bytes as it receives (R82). -/
def answers (op : BusOp) (e : Event) : Bool :=
  match op, e with
  | .tx _, .done => true
  | .rx count, .doneData bytes => decide (bytes.length = count)
  | .xfer sent, .doneData bytes => decide (bytes.length = sent.length)
  | _, _ => false

/-- Where the monitor goes after an operation of this kind completes. -/
def afterAnswer : BusOp → Monitor
  | .tx _ => .sent
  | .rx _ => .received
  | .xfer _ => .received

/-- One event. `none`: the protocol forbids it here. -/
def Monitor.next (m : Monitor) (e : Event) : Option Monitor :=
  match m, e with
  | .quiet, .accept _ => some .accepted
  | .quiet, .reset => some .quiet
  | .accepted, .csAssert => some .selected
  | .accepted, .respFault _ => some .responded
  | .accepted, .respCount _ => some .responded
  | .accepted, .respCounts _ _ _ => some .responded
  | .selected, .issue op => if opensTransaction op then some (.busy op) else none
  | .busy _, .reset => some .cut
  | .busy op, e => if answers op e then some (afterAnswer op) else none
  | .sent, .issue op => if continuesTransaction op then some (.busy op) else none
  | .sent, .csDeassert => some .released
  | .received, .csDeassert => some .released
  | .released, .respOk => some .responded
  | .released, .respData _ => some .responded
  | .responded, .take => some .quiet
  | .responded, .reset => some .quiet
  | .cut, .csDeassert => some .quiet
  | _, _ => none

/-- A whole event record, oldest event first. -/
def Monitor.run (m : Monitor) : List Event → Option Monitor
  | [] => some m
  | e :: es =>
    match m.next e with
    | some m' => Monitor.run m' es
    | none => none

/-- Where a state stands in the protocol, between two steps. -/
def monitorOf (s : State) : Monitor :=
  match s.phase, s.busOp with
  | .idle, _ => .quiet
  | .resp, _ => .responded
  | _, some op => .busy op
  | _, none => .quiet

/-! The invariant. -/

/-- The bus-operation channel is as the phase says (R23, R28, R93). -/
def channelMatchesPhase (s : State) : Prop :=
  match s.phase with
  | .idle => s.busOp = none
  | .wFrame => s.busOp = some (.tx (sentFrame s)) ∧ 1 ≤ s.frameLen.toNat ∧ s.frameLen.toNat ≤ Config.maxFrame
  | .rAddr => s.busOp = some (.tx [addrByte s.curAddr])
  | .rData => s.busOp = some (.rx s.curSize.toNat) ∧ 1 ≤ s.curSize.toNat
  | .bCmd => s.busOp = some (.tx [s.burstCmd])
  | .bData => ∃ bytes, s.busOp = some (.xfer bytes) ∧ bytes.length = Config.windowLen
  | .resp => s.busOp = none

/-- The invariant of the block's states. -/
structure Inv (s : State) : Prop where
  /-- `cs_n` is the level R23 gives the phase. -/
  chipSelect : s.csN = (s.phase == .idle || s.phase == .resp)
  /-- The channel matches the phase. -/
  channel : channelMatchesPhase s
  /-- The code is 0 exactly when the block is not faulted (R24). -/
  faultCode : s.faulted = false ↔ s.faultCode = 0#2
  /-- A faulted block has no transaction in progress (R111, R114). -/
  faultedPhase : s.faulted = true → s.phase = .idle ∨ s.phase = .resp
  /-- The presented status is 0, or the fault code (R27, R89, R112). -/
  status : s.phase = .resp → s.rspStatus = s.faultCode
  /-- What is known of the device is in canonical form. -/
  device : s.device.wf = true
  /-- The events so far obey the protocol, and the state stands where they end. -/
  protocol : Monitor.run .quiet s.events = some (monitorOf s)

/-! The step relation of R93. -/

/-- The block accepts the presented request: what every acceptance row has in common. -/
def Accepts (s : State) : Prop := s.phase = .idle ∧ s.faulted = false ∧ s.reqValid = true

/-- One row of the table of R93: from which phase, on which trigger, with which action, to which phase. `h` is what
the row says of the two states; what a row does not name is in the frame statements. -/
inductive TableRow (s t : State) : Prop where
  | acceptFault (c : FaultCode) (from_ : Accepts s) (word : classify s.reqCmd = .error c)
      (h : t.phase = .resp ∧ t.csN = s.csN ∧ t.busOp = s.busOp ∧ t.faulted = true ∧ t.faultCode = c.bits ∧
        t.rspStatus = c.bits ∧ t.rspLen = 0#6 ∧
        t.events = s.events ++ [.accept s.reqCmd, .respFault c.bits])
  | acceptWrite (a : DevAddr) (n : Size) (from_ : Accepts s) (word : classify s.reqCmd = .ok (.writeReg a n))
      (h : t.phase = .wFrame ∧ t.csN = false ∧ t.busOp = some (.tx (sentFrame t)) ∧
        sentFrame t = addrByte a :: s.reqData.toList.take n.toNat ∧
        t.events = s.events ++ [.accept s.reqCmd, .csAssert, .issue (.tx (sentFrame t))])
  | acceptRead (a : DevAddr) (n : Size) (from_ : Accepts s) (word : classify s.reqCmd = .ok (.readReg a n))
      (h : t.phase = .rAddr ∧ t.csN = false ∧ t.busOp = some (.tx [addrByte a]) ∧ t.curAddr = a ∧ t.curSize = n ∧
        t.events = s.events ++ [.accept s.reqCmd, .csAssert, .issue (.tx [addrByte a])])
  | acceptBurst (from_ : Accepts s) (word : classify s.reqCmd = .ok (.readBurst 0#7 0#6))
      (h : t.phase = .bCmd ∧ t.csN = false ∧ t.busOp = some (.tx [s.burstCmd]) ∧
        t.events = s.events ++ [.accept s.reqCmd, .csAssert, .issue (.tx [s.burstCmd])])
  | acceptDecode24 (from_ : Accepts s) (word : classify s.reqCmd = .ok (.decode24 0#7 0#6))
      (h : t.phase = .resp ∧ t.csN = s.csN ∧ t.busOp = s.busOp ∧ t.rspStatus = 0#2 ∧ t.rspX = laneX s ∧
        t.events = s.events ++ [.accept s.reqCmd, .respCount (laneX s)])
  | acceptDecodeWindow (from_ : Accepts s) (word : classify s.reqCmd = .ok (.decodeWindow 0#7 0#6))
      (h : t.phase = .resp ∧ t.csN = s.csN ∧ t.busOp = s.busOp ∧ t.rspStatus = 0#2 ∧
        t.rspX = laneX s ∧ t.rspY = laneY s ∧ t.rspZ = laneZ s ∧
        t.events = s.events ++ [.accept s.reqCmd, .respCounts (laneX s) (laneY s) (laneZ s)])
  | writeDone (op : BusOp) (d : List Byte) (from_ : s.phase = .wFrame) (on : s.inputs.head? = some (.done d))
      (h : s.busOp = some op ∧ t.phase = .resp ∧ t.csN = true ∧ t.busOp = none ∧ t.rspStatus = 0#2 ∧
        t.rspLen = 0#6 ∧ t.events = s.events ++ [doneEvent op d, .csDeassert, .respOk])
  | readAddrDone (op : BusOp) (d : List Byte) (from_ : s.phase = .rAddr) (on : s.inputs.head? = some (.done d))
      (size : s.curSize ≠ 0#6)
      (h : s.busOp = some op ∧ t.phase = .rData ∧ t.csN = s.csN ∧ t.busOp = some (.rx s.curSize.toNat) ∧
        t.events = s.events ++ [doneEvent op d, .issue (.rx s.curSize.toNat)])
  | readAddrOnlyDone (op : BusOp) (d : List Byte) (from_ : s.phase = .rAddr)
      (on : s.inputs.head? = some (.done d)) (size : s.curSize = 0#6)
      (h : s.busOp = some op ∧ t.phase = .resp ∧ t.csN = true ∧ t.busOp = none ∧ t.rspStatus = 0#2 ∧
        t.rspLen = 0#6 ∧ t.events = s.events ++ [doneEvent op d, .csDeassert, .respData []])
  | readDataDone (op : BusOp) (d : List Byte) (from_ : s.phase = .rData) (on : s.inputs.head? = some (.done d))
      (h : s.busOp = some op ∧ t.phase = .resp ∧ t.csN = true ∧ t.busOp = none ∧ t.rspStatus = 0#2 ∧
        t.rspLen = s.curSize ∧ t.rxbuf = overlay d s.rxbuf ∧ t.rspData = overlay d s.rspData ∧
        t.events = s.events ++ [doneEvent op d, .csDeassert, .respData d])
  | burstCmdDone (op : BusOp) (d f : List Byte) (from_ : s.phase = .bCmd)
      (on : s.inputs.head? = some (.done d))
      (h : s.busOp = some op ∧ f.length = Config.windowLen ∧ t.phase = .bData ∧ t.csN = s.csN ∧
        t.busOp = some (.xfer f) ∧ t.events = s.events ++ [doneEvent op d, .issue (.xfer f)])
  | burstDataDone (op : BusOp) (d : List Byte) (from_ : s.phase = .bData) (on : s.inputs.head? = some (.done d))
      (h : s.busOp = some op ∧ t.phase = .resp ∧ t.csN = true ∧ t.busOp = none ∧ t.rspStatus = 0#2 ∧
        t.rspLen = 9#6 ∧ t.rxbuf = overlay d s.rxbuf ∧ t.rspData = overlay d s.rspData ∧
        t.events = s.events ++ [doneEvent op d, .csDeassert, .respData d])
  | take (from_ : s.phase = .resp) (on : s.inputs.head? = some .take)
      (h : t.phase = .idle ∧ t.csN = s.csN ∧ t.busOp = s.busOp ∧ t.faulted = s.faulted ∧
        t.faultCode = s.faultCode ∧ t.events = s.events ++ [.take])
  | reset (on : s.inputs.head? = some .reset)
      (h : t.phase = .idle ∧ t.csN = true ∧ t.busOp = none ∧ t.faulted = false ∧ t.faultCode = 0#2 ∧
        t.events = s.events ++ resetEvents s)

/-- A step in which only the outside world moves: nothing of the block changes, and no event happens. What may change
is the level of the request port, the late completions still expected, what is known of the device, and the list of
what is to come. -/
def OutsideMoves (s t : State) : Prop :=
  ∃ (valid : Bool) (cmd : Cmd) (data : Vector Byte 63) (abandoned : Nat) (device : Memory) (inputs : List Input),
    t = { s with reqValid := valid, reqCmd := cmd, reqData := data, abandoned := abandoned, device := device,
                 inputs := inputs }

/-! Runs. -/

/-- `k` steps of the machine. -/
abbrev runSteps (k : Nat) (s : State) : Host.Outcome State Fault Refusal := Host.Core.run Sys2Proof.core k s

/-- The block will accept the presented request in the next step. -/
def acceptsNow (s : State) : Prop := s.reqReady = true ∧ s.reqValid = true ∧ s.inputs.head? ≠ some .reset

/-- The next step changes nothing of the block because of the bus or a reset. -/
def isDoneOrReset : Input → Bool
  | .done _ => true
  | .reset => true
  | _ => false

/-! The device's answers. -/

/-- The one constraint the spec states on received bytes (R44), with the six cycle-count registers at `first` and after
it (R52): a one-byte read of one of them answers the byte that register is known to hold. The machine does not impose
it; a statement that needs it takes it as a hypothesis. -/
def answerKeepsCycleCount (first : DevAddr) (s : State) (d : List Byte) : Prop :=
  ∀ i v, i < 6 → s.phase = .rData → s.curSize = 1#6 → s.curAddr.toNat = first.toNat + i →
    s.device.read s.curAddr.toNat = some v → d = [v]

end Sys2Proof.Safety
end

