-- ==== Sys2Proof/Certificates/Slice0/Obligations.lean ====
section
/-! DEFINITION. The statements for the provers. Each docstring names the rule of spec/ it formalises. -/

open Sys2Proof Sys2Proof.Machine Sys2Proof.Safety

/-! ## Encoding and decoding -/

/-- Decoding the word of any request, legal or not, gives the request back with every field (R66, R68). -/
def Obligations.DecodeEncodeRoundTrip : Prop := ∀ i : Instr, decode (encode i) = i

/-- Every one of the 65536 command words is the word of exactly the request it decodes to (R66, R70). -/
def Obligations.EncodeDecodeRoundTrip : Prop := ∀ cmd : Cmd, encode (decode cmd) = cmd

/-- The fields of the command word in plain arithmetic, and the encoding formula of R66. -/
def Obligations.CommandWordFields : Prop :=
  (∀ cmd : Cmd, (opField cmd).toNat = cmd.toNat % 8 ∧ (addrField cmd).toNat = cmd.toNat / 8 % 128 ∧
    (sizeField cmd).toNat = cmd.toNat / 1024) ∧
  (∀ (a : DevAddr) (n : Size),
    encode (.writeReg a n) = (n.setWidth 16 <<< 10) ||| (a.setWidth 16 <<< 3) ||| 0#16 ∧
    encode (.readReg a n) = (n.setWidth 16 <<< 10) ||| (a.setWidth 16 <<< 3) ||| 1#16 ∧
    encode (.readBurst 0#7 0#6) = 0x0002#16 ∧ encode (.decode24 0#7 0#6) = 0x0003#16 ∧
    encode (.decodeWindow 0#7 0#6) = 0x0004#16)

/-- R70: every word selects exactly one outcome, by the conditions of its pseudocode in the order written. The five
operations come out with their fields; the conditions are written on the word's number. -/
def Obligations.DecodeSelectsOneOutcome : Prop :=
  ∀ cmd : Cmd, ∀ op addr size : Nat,
    op = cmd.toNat % 8 → addr = cmd.toNat / 8 % 128 → size = cmd.toNat / 1024 →
    classify cmd =
      if 5 ≤ op then .error .illegalOp
      else if (op = 2 ∨ op = 3 ∨ op = 4) ∧ (addr ≠ 0 ∨ size ≠ 0) then .error .reservedField
      else if op = 0 ∧ 32 ≤ size then .error .frameTooLong
      else if op = 0 then .ok (.writeReg (BitVec.ofNat 7 addr) (BitVec.ofNat 6 size))
      else if op = 1 then .ok (.readReg (BitVec.ofNat 7 addr) (BitVec.ofNat 6 size))
      else if op = 2 then .ok (.readBurst 0#7 0#6)
      else if op = 3 then .ok (.decode24 0#7 0#6)
      else .ok (.decodeWindow 0#7 0#6)

/-- The rows of the opcode map, as the patterns of R68 and the reserved opcodes of R69: a word fits at most one row;
the row it fits is the one the decoder names; and the words that fit no row are exactly those that fault
RESERVED_FIELD. -/
def Obligations.OpcodeRowsPartitionTheWords : Prop :=
  ∀ cmd : Cmd,
    (opcodeTable.filter fun row => rowMatches row cmd).length ≤ 1 ∧
    (∀ row ∈ opcodeTable, rowMatches row cmd = true → row.mnemonic = mnemonicOf (decode cmd)) ∧
    ((∀ row ∈ opcodeTable, rowMatches row cmd = false) ↔ classify cmd = .error .reservedField)

/-- Words of the spec's decode table (95_test_vectors.md 2.2), one of each row of the opcode map. -/
def Obligations.SpecWordsDecode : Prop :=
  decode 0x0408#16 = .writeReg 0x01#7 1#6 ∧ decode 0x7FF8#16 = .writeReg 0x7F#7 31#6 ∧
  decode 0x05A1#16 = .readReg 0x34#7 1#6 ∧ decode 0x0921#16 = .readReg 0x24#7 2#6 ∧
  decode 0x0002#16 = .readBurst 0#7 0#6 ∧ decode 0x000A#16 = .readBurst 1#7 0#6 ∧
  decode 0x0003#16 = .decode24 0#7 0#6 ∧ decode 0xFC04#16 = .decodeWindow 0#7 63#6 ∧
  decode 0x0005#16 = .reservedOp5 0#13 ∧ decode 0x0006#16 = .reservedOp6 0#13 ∧
  decode 0xFFFF#16 = .reservedOp7 0x1FFF#13

/-- R61 and R92: bit `i + 1` of the address byte is `addr[i]`, bit 0 is 0, it is `(zext_8(addr) << 1) & 0xFF`; and the
frame of every write that does not fault, and of every read, begins with that byte, so nothing marks a read. -/
def Obligations.AddressByteIsShiftedAddress : Prop :=
  ∀ a : DevAddr,
    (addrByte a).getLsbD 0 = false ∧ (∀ i, i < 7 → (addrByte a).getLsbD (i + 1) = a.getLsbD i) ∧
    addrByte a = (a.setWidth 8 <<< 1) &&& 0xFF#8 ∧
    (∀ (n : Size) (s : State), n.toNat ≤ 31 →
      ∃ t rest, exec (.writeReg a n) s = .next t ∧ t.busOp = some (.tx (addrByte a :: rest))) ∧
    (∀ (n : Size) (s : State),
      ∃ t, exec (.readReg a n) s = .next t ∧ t.busOp = some (.tx [addrByte a]))

/-! ## What each request does at acceptance -/

/-- WRITE_REG with SIZE at most 31 (R83, R93): the frame is in its buffer, `CS_ASSERT` and its one transmit are on the
bus, the sequencer waits in W_FRAME. -/
def Obligations.WriteRegStartsItsTransaction : Prop :=
  ∀ (a : DevAddr) (n : Size) (s : State), n.toNat ≤ 31 →
    ∃ t frame, exec (.writeReg a n) s = .next t ∧ frame = addrByte a :: s.reqData.toList.take n.toNat ∧
      t.phase = .wFrame ∧ t.csN = false ∧ t.busOp = some (.tx frame) ∧
      t.frame.toList.take (n.toNat + 1) = frame ∧ t.frameLen.toNat = n.toNat + 1 ∧
      t.events = s.events ++ [.csAssert, .issue (.tx frame)]

/-- READ_REG, every ADDR and every SIZE (R85, R93): address and size are latched, `CS_ASSERT` and the address-byte
transmit are on the bus, the sequencer waits in R_ADDR. -/
def Obligations.ReadRegStartsItsTransaction : Prop :=
  ∀ (a : DevAddr) (n : Size) (s : State),
    ∃ t, exec (.readReg a n) s = .next t ∧ t.phase = .rAddr ∧ t.csN = false ∧ t.busOp = some (.tx [addrByte a]) ∧
      t.curAddr = a ∧ t.curSize = n ∧ t.events = s.events ++ [.csAssert, .issue (.tx [addrByte a])]

/-- READ_BURST with its reserved fields 0 (R87, R93): `CS_ASSERT` and the transmit of `BURST_CMD`, unchanged, are on the
bus, the sequencer waits in B_CMD. -/
def Obligations.ReadBurstStartsItsTransaction : Prop :=
  ∀ s : State,
    ∃ t, exec (.readBurst 0#7 0#6) s = .next t ∧ t.phase = .bCmd ∧ t.csN = false ∧
      t.busOp = some (.tx [s.burstCmd]) ∧ t.events = s.events ++ [.csAssert, .issue (.tx [s.burstCmd])]

/-- DECODE24 (R100, R101): `rsp_x` is the 24-bit field of the three operand bytes, most significant first, widened by
sign extension; the response is OK in the same step, without a bus event. -/
def Obligations.Decode24AnswersTheSignExtendedAxis : Prop :=
  ∀ s : State,
    ∃ t, exec (.decode24 0#7 0#6) s = .next t ∧ t.phase = .resp ∧ t.rspStatus = 0#2 ∧
      t.rspX = (s.reqData[0] ++ s.reqData[1] ++ s.reqData[2] : BitVec 24).signExtend 32 ∧
      t.events = s.events ++ [.respCount t.rspX]

/-- DECODE_WINDOW (R102, R103): lane `k` is the sign extension of window bytes `3k`, `3k + 1`, `3k + 2`. -/
def Obligations.DecodeWindowAnswersThreeSignExtendedAxes : Prop :=
  ∀ s : State,
    ∃ t, exec (.decodeWindow 0#7 0#6) s = .next t ∧ t.phase = .resp ∧ t.rspStatus = 0#2 ∧
      t.rspX = (s.reqData[0] ++ s.reqData[1] ++ s.reqData[2] : BitVec 24).signExtend 32 ∧
      t.rspY = (s.reqData[3] ++ s.reqData[4] ++ s.reqData[5] : BitVec 24).signExtend 32 ∧
      t.rspZ = (s.reqData[6] ++ s.reqData[7] ++ s.reqData[8] : BitVec 24).signExtend 32 ∧
      t.events = s.events ++ [.respCounts t.rspX t.rspY t.rspZ]

/-- The reserved opcodes (R69 item 1, R110, R112): each takes ILLEGAL_OP, whatever the rest of the word holds. -/
def Obligations.ReservedOpcodesTakeIllegalOp : Prop :=
  ∀ (r : BitVec 13) (s : State), ∀ i ∈ [Instr.reservedOp5 r, .reservedOp6 r, .reservedOp7 r],
    exec i s = .next { s with
      faulted := true, faultCode := 1#2, rspStatus := 1#2, rspLen := 0#6, phase := .resp,
      events := s.events ++ [.respFault 1#2] }

/-- READ_BURST, DECODE24 and DECODE_WINDOW with ADDR or SIZE not 0 take RESERVED_FIELD (R69 item 2, R110, R112). -/
def Obligations.ReservedFieldsTakeReservedField : Prop :=
  ∀ (a : DevAddr) (n : Size) (s : State), a ≠ 0#7 ∨ n ≠ 0#6 →
    ∀ i ∈ [Instr.readBurst a n, .decode24 a n, .decodeWindow a n],
      exec i s = .next { s with
        faulted := true, faultCode := 2#2, rspStatus := 2#2, rspLen := 0#6, phase := .resp,
        events := s.events ++ [.respFault 2#2] }

/-- R84: a WRITE_REG with SIZE 32 to 63 faults FRAME_TOO_LONG at acceptance, with no bus event, no operation issued and
`cs_n` as it was; with any smaller SIZE the transmit it issues carries the whole frame of SIZE + 1 bytes, at most 32. -/
def Obligations.LongWriteFaultsAndShortWriteIsNotCut : Prop :=
  ∀ (a : DevAddr) (n : Size) (s : State),
    (32 ≤ n.toNat → ∃ t, exec (.writeReg a n) s = .next t ∧ t.faulted = true ∧ t.faultCode = 3#2 ∧
      t.rspStatus = 3#2 ∧ t.rspLen = 0#6 ∧ t.phase = .resp ∧ t.csN = s.csN ∧ t.busOp = s.busOp ∧
      t.events = s.events ++ [.respFault 3#2]) ∧
    (n.toNat < 32 → ∃ t frame, exec (.writeReg a n) s = .next t ∧ t.faulted = s.faulted ∧
      t.busOp = some (.tx frame) ∧ frame.length = n.toNat + 1 ∧ frame.length ≤ 32)

/-- R112 at the step: in the acceptance step of a word that decodes to `Fault(c)` the fault record is set, the response
carries the code with length 0, the sequencer goes to RESP, the chip-select line and the channel stay, STATUS reads
BUSY, FAULTED and the code, and no bus event is recorded. -/
def Obligations.FaultEntryAtAcceptance : Prop :=
  ∀ (s : State) (c : FaultCode), acceptsNow s → classify s.reqCmd = .error c →
    ∃ t, step s = .next t ∧ t.faulted = true ∧ t.faultCode = c.bits ∧ t.rspStatus = c.bits ∧ t.rspLen = 0#6 ∧
      t.phase = .resp ∧ t.csN = s.csN ∧ t.busOp = s.busOp ∧ t.status = 0#4 ++ c.bits ++ 1#1 ++ 1#1 ∧
      t.events = s.events ++ [.accept s.reqCmd, .respFault c.bits]

/-! ## Frames -/

/-- What a transport request leaves alone (R31, R51, R83 to R87): the fault record, every response field, the request
port, `rxbuf`, the build-time parameter, everything outside the block, every device register; and of the request
registers all but its own, `frame` and `frame_len` for WRITE_REG, `cur_addr` and `cur_size` for READ_REG. Its forms
that fault are in `FaultingRequestFrame`. -/
def Obligations.TransportRequestFrame : Prop :=
  ∀ (a : DevAddr) (n : Size) (s t : State) (i : Instr),
    i ∈ [Instr.writeReg a n, .readReg a n, .readBurst a n] → faultOf i = none → exec i s = .next t →
      t.faulted = s.faulted ∧ t.faultCode = s.faultCode ∧ t.rspStatus = s.rspStatus ∧ t.rspLen = s.rspLen ∧
      t.rspData = s.rspData ∧ t.rspX = s.rspX ∧ t.rspY = s.rspY ∧ t.rspZ = s.rspZ ∧
      t.reqValid = s.reqValid ∧ t.reqCmd = s.reqCmd ∧ t.reqData = s.reqData ∧ t.rxbuf = s.rxbuf ∧
      t.burstCmd = s.burstCmd ∧ t.abandoned = s.abandoned ∧ t.inputs = s.inputs ∧ t.draws = s.draws ∧
      (∀ b, t.device.read b = s.device.read b) ∧
      (i ≠ .writeReg a n → t.frame = s.frame ∧ t.frameLen = s.frameLen) ∧
      (i ≠ .readReg a n → t.curAddr = s.curAddr ∧ t.curSize = s.curSize)

/-- What a decoder request leaves alone (R31, R81, R100 to R105): the chip-select line, the channel, the fault record,
every request register, the request port, `rsp_len`, `rsp_data`, everything outside the block, every device register;
and DECODE24 leaves `rsp_y` and `rsp_z` alone. -/
def Obligations.DecoderRequestFrame : Prop :=
  ∀ (s t : State) (i : Instr),
    i ∈ [Instr.decode24 0#7 0#6, .decodeWindow 0#7 0#6] → exec i s = .next t →
      t.csN = s.csN ∧ t.busOp = s.busOp ∧ t.faulted = s.faulted ∧ t.faultCode = s.faultCode ∧
      t.frame = s.frame ∧ t.frameLen = s.frameLen ∧ t.curAddr = s.curAddr ∧ t.curSize = s.curSize ∧
      t.rxbuf = s.rxbuf ∧ t.reqValid = s.reqValid ∧ t.reqCmd = s.reqCmd ∧ t.reqData = s.reqData ∧
      t.rspLen = s.rspLen ∧ t.rspData = s.rspData ∧ t.burstCmd = s.burstCmd ∧ t.abandoned = s.abandoned ∧
      t.inputs = s.inputs ∧ t.draws = s.draws ∧ (∀ b, t.device.read b = s.device.read b) ∧
      (i = .decode24 0#7 0#6 → t.rspY = s.rspY ∧ t.rspZ = s.rspZ)

/-- What any request that faults leaves alone (R111, R112): everything but the fault record, `rsp_status`, `rsp_len`,
the phase and the event record. -/
def Obligations.FaultingRequestFrame : Prop :=
  ∀ (s t : State) (i : Instr), faultOf i ≠ none → exec i s = .next t →
    t.csN = s.csN ∧ t.busOp = s.busOp ∧ t.frame = s.frame ∧ t.frameLen = s.frameLen ∧ t.curAddr = s.curAddr ∧
    t.curSize = s.curSize ∧ t.rxbuf = s.rxbuf ∧ t.reqValid = s.reqValid ∧ t.reqCmd = s.reqCmd ∧
    t.reqData = s.reqData ∧ t.rspData = s.rspData ∧ t.rspX = s.rspX ∧ t.rspY = s.rspY ∧ t.rspZ = s.rspZ ∧
    t.burstCmd = s.burstCmd ∧ t.abandoned = s.abandoned ∧ t.inputs = s.inputs ∧ t.draws = s.draws ∧
    (∀ b, t.device.read b = s.device.read b)

/-! ## The step -/

/-- A step of a ready block with a request presented is the meaning of the decoded request, in the state after the
handshake: `req_valid` is low, the acceptance is recorded, and the command, the data and everything that outlives a
request are as they were. The same of a request the host places (R80). -/
def Obligations.StepRunsTheDecodedRequest : Prop :=
  (∀ s : State, acceptsNow s → step s = exec (decode s.reqCmd) s.beginRequest) ∧
  (∀ (s : State) (w : Nat), s.reqReady = true → s.inputs.head? ≠ some .reset → w < 2 ^ 16 →
    step (s.withFetchWord 16 w) =
      exec (decode (BitVec.ofNat 16 w)) (s.withFetchWord 16 w).beginRequest) ∧
  (∀ s : State, s.beginRequest.reqValid = false ∧ s.beginRequest.reqCmd = s.reqCmd ∧
    s.beginRequest.reqData = s.reqData ∧ s.beginRequest.csN = s.csN ∧ s.beginRequest.phase = s.phase ∧
    s.beginRequest.faulted = s.faulted ∧ s.beginRequest.faultCode = s.faultCode ∧
    s.beginRequest.busOp = s.busOp ∧ s.beginRequest.burstCmd = s.burstCmd ∧ s.beginRequest.device = s.device ∧
    s.beginRequest.inputs = s.inputs ∧ s.beginRequest.abandoned = s.abandoned ∧
    s.beginRequest.events = s.events ++ [.accept s.reqCmd])

/-- R80: a request presented while `req_ready = 0` is neither accepted nor dropped: whatever else the step does, unless
the requester itself moves its port, the request is still presented, unchanged, and no acceptance is among the step's
events. And presenting it changes nothing of the block and makes no event. -/
def Obligations.PresentedRequestWaits : Prop :=
  (∀ s t : State, s.reqReady = false → s.reqValid = true → step s = .next t →
    (∀ cmd data, s.inputs.head? ≠ some (.present cmd data)) → s.inputs.head? ≠ some .withdraw →
      t.reqValid = true ∧ t.reqCmd = s.reqCmd ∧ t.reqData = s.reqData ∧
      ∀ cmd, .accept cmd ∉ t.events.drop s.events.length) ∧
  (∀ (s : State) (cmd : Cmd) (data : Vector Byte 63) (rest : List Input),
    s.reqReady = false → s.inputs = .present cmd data :: rest →
      step s = .next { s with reqValid := true, reqCmd := cmd, reqData := data, inputs := rest })

/-- W_FRAME on `DONE` (R83, R93): the transmit is retired, the window closes, the response is OK with length 0. -/
def Obligations.WriteCompletesOnDone : Prop :=
  ∀ (s : State) (bytes : List Byte) (rest : List Input),
    s.phase = .wFrame → s.busOp = some (.tx bytes) → s.inputs = .done [] :: rest →
      ∃ t, step s = .next t ∧ t.phase = .resp ∧ t.csN = true ∧ t.busOp = none ∧ t.rspStatus = 0#2 ∧
        t.rspLen = 0#6 ∧ t.rspBytes = [] ∧ t.inputs = rest ∧ t.faulted = s.faulted ∧
        t.events = s.events ++ [.done, .csDeassert, .respOk]

/-- R_ADDR on `DONE` (R85, R86, R93): with `cur_size` not 0 the receive is issued in the same window; with `cur_size` 0
none is issued, the window closes and the response is OK with length 0. -/
def Obligations.ReadAddressPhaseCompletesOnDone : Prop :=
  ∀ (s : State) (bytes : List Byte) (rest : List Input),
    s.phase = .rAddr → s.busOp = some (.tx bytes) → s.inputs = .done [] :: rest →
      ∃ t, step s = .next t ∧ t.inputs = rest ∧ t.faulted = s.faulted ∧
        (s.curSize ≠ 0#6 → t.phase = .rData ∧ t.csN = s.csN ∧ t.busOp = some (.rx s.curSize.toNat) ∧
          t.curSize = s.curSize ∧ t.events = s.events ++ [.done, .issue (.rx s.curSize.toNat)]) ∧
        (s.curSize = 0#6 → t.phase = .resp ∧ t.csN = true ∧ t.busOp = none ∧ t.rspStatus = 0#2 ∧ t.rspLen = 0#6 ∧
          t.events = s.events ++ [.done, .csDeassert, .respData []])

/-- R_DATA on `DONE(d)`, for every `d` of the receive's length (R44, R85, R93): the bytes are in `rxbuf` and in
`rsp_data`, in received order, unchecked; the window closes; the response is OK with length SIZE. -/
def Obligations.ReadDataPhaseCompletesOnDone : Prop :=
  ∀ (s : State) (d : List Byte) (rest : List Input),
    s.phase = .rData → s.busOp = some (.rx s.curSize.toNat) → s.inputs = .done d :: rest →
      d.length = s.curSize.toNat →
      ∃ t, step s = .next t ∧ t.phase = .resp ∧ t.csN = true ∧ t.busOp = none ∧ t.rspStatus = 0#2 ∧
        t.rspLen = s.curSize ∧ t.rspBytes = d ∧ t.rxbuf.toList.take d.length = d ∧ t.inputs = rest ∧
        t.faulted = s.faulted ∧ t.events = s.events ++ [.doneData d, .csDeassert, .respData d]

/-- READ_BURST's two completions (R64, R87, R93). B_CMD on `DONE`: a 9-byte exchange is issued in the same window. B_DATA
on `DONE(d)`, for every `d` of the exchange's length 9: the bytes are in `rsp_data` in received order, the window
closes, the response is OK with length 9. Nothing is said of the filler's bytes. -/
def Obligations.BurstCompletesOnDone : Prop :=
  (∀ (s : State) (bytes : List Byte) (rest : List Input),
    s.phase = .bCmd → s.busOp = some (.tx bytes) → s.inputs = .done [] :: rest →
      ∃ t f, step s = .next t ∧ f.length = 9 ∧ t.phase = .bData ∧ t.csN = s.csN ∧ t.busOp = some (.xfer f) ∧
        t.inputs = rest ∧ t.faulted = s.faulted ∧ t.events = s.events ++ [.done, .issue (.xfer f)]) ∧
  (∀ (s : State) (f d : List Byte) (rest : List Input),
    s.phase = .bData → s.busOp = some (.xfer f) → s.inputs = .done d :: rest → f.length = 9 → d.length = 9 →
      ∃ t, step s = .next t ∧ t.phase = .resp ∧ t.csN = true ∧ t.busOp = none ∧ t.rspStatus = 0#2 ∧
        t.rspLen = 9#6 ∧ t.rspBytes = d ∧ t.rxbuf.toList.take 9 = d ∧ t.inputs = rest ∧ t.faulted = s.faulted ∧
        t.events = s.events ++ [.doneData d, .csDeassert, .respData d])

/-- RESP and `rsp_take = 1` (R27, R93, R114): the block is idle again, the fault record and the lines stay; it is ready
for a request exactly when it is not faulted. -/
def Obligations.TakenResponseLeavesIdle : Prop :=
  ∀ (s : State) (rest : List Input), s.phase = .resp → s.inputs = .take :: rest →
    ∃ t, step s = .next t ∧ t.phase = .idle ∧ t.csN = s.csN ∧ t.busOp = s.busOp ∧ t.faulted = s.faulted ∧
      t.faultCode = s.faultCode ∧ t.rspValid = false ∧ t.reqReady = !s.faulted ∧ t.inputs = rest ∧
      t.device = s.device ∧ t.events = s.events ++ [.take]

/-- R130 and R132: a reset, in any state, gives the reset value of every piece of block state, whatever comes after it;
the registers and response fields without a value become free values of a new draw; nothing is known of the device;
the build-time parameter, the requester's levels and what is still to come are kept. -/
def Obligations.ResetGivesResetValues : Prop :=
  ∀ (s : State) (rest : List Input), s.inputs = .reset :: rest →
    ∃ t, step s = .next t ∧ t.csN = true ∧ t.phase = .idle ∧ t.faulted = false ∧ t.faultCode = 0#2 ∧
      t.busOp = none ∧ t.status = 0x00#8 ∧ t.reqReady = true ∧ t.rspValid = false ∧ t.burstCmd = s.burstCmd ∧
      (∀ a, t.device.read a = none) ∧ t.reqValid = s.reqValid ∧ t.reqCmd = s.reqCmd ∧ t.reqData = s.reqData ∧
      t.inputs = rest ∧ s.draws < t.draws ∧
      t.rspStatus = Config.rspStatus s.draws ∧ t.rspLen = Config.rspLen s.draws ∧
      t.rspX = Config.rspX s.draws ∧ t.rspY = Config.rspY s.draws ∧ t.rspZ = Config.rspZ s.draws ∧
      t.frameLen = Config.frameLen s.draws ∧ t.curAddr = Config.curAddr s.draws ∧
      t.curSize = Config.curSize s.draws ∧
      t.rspData.toList = (List.range 63).map (Config.rspByte s.draws) ∧
      t.frame.toList = (List.range 32).map (Config.frameByte s.draws) ∧
      t.rxbuf.toList = (List.range 63).map (Config.rxByte s.draws)

/-- R131: a reset with an operation outstanding ends the window in that very step with no response event, and the
completion that arrives later for the abandoned operation is ignored: the step it takes changes only what is still to
come and how many late completions are due. -/
def Obligations.ResetAbandonsTheTransaction : Prop :=
  ∀ (s : State) (op : BusOp) (rest : List Input),
    s.busOp = some op → s.csN = false → s.reqValid = false → s.inputs = .reset :: .lateDone :: rest →
      ∃ t u, step s = .next t ∧ step t = .next u ∧
        t.csN = true ∧ t.phase = .idle ∧ t.busOp = none ∧ t.abandoned = s.abandoned + 1 ∧
        t.events = s.events ++ [.reset, .csDeassert] ∧
        u = { t with abandoned := s.abandoned, inputs := rest }

/-- A completion that cannot happen is refused by name (R82, R93, I16): one without an operation outstanding, one in a
phase that waits for none, and one with a wrong number of bytes. -/
def Obligations.ImpossibleCompletionIsRefused : Prop :=
  ∀ (s : State) (d : List Byte) (rest : List Input),
    s.inputs = .done d :: rest → (s.reqReady = false ∨ s.reqValid = false) →
      (s.busOp = none → step s = .refused .completionWithoutOperation) ∧
      (∀ op, s.busOp = some op → d.length ≠ replyLength op → step s = .refused .completionLength) ∧
      (∀ op, s.busOp = some op → d.length = replyLength op → s.phase = .idle ∨ s.phase = .resp →
        step s = .refused .completionWithoutOperation)

/-! ## Reset state and invariant -/

/-- R34: the values the spec gives for reset, in the reset state itself. -/
def Obligations.ResetStateValues : Prop :=
  State.reset.csN = true ∧ State.reset.phase = .idle ∧ State.reset.faulted = false ∧
  State.reset.faultCode = 0#2 ∧ State.reset.status = 0x00#8 ∧ State.reset.reqReady = true ∧
  State.reset.rspValid = false ∧ State.reset.busOp = none ∧ State.reset.burstCmd = Config.burstCmd

/-- The invariant holds in the reset state. -/
def Obligations.ResetStateMeetsInvariant : Prop := Inv State.reset

/-- Every step keeps the invariant: the chip-select level and the outstanding operation are those of the phase (R23,
R28), the fault record and the presented status agree (R24, R112), the device space is in canonical form, and the
whole event record obeys the chip-select protocol: every window has one assert, its operations one after another each
answered before the next, one deassert after the last, and then the response (R54, R55, R81, R82, R90). -/
def Obligations.StepKeepsInvariant : Prop := ∀ s t : State, Inv s → step s = .next t → Inv t

/-- R93: a step that answers a next state is a row of the table of the step relation, or only the outside world moves
and nothing of the block changes. The reset mark in the events of the reset row (log entry 7) and the steps of the
outside world (`OutsideMoves`, log entries 9, 10, 12 and 13) are the model's own, no row of R93. -/
def Obligations.StepFollowsTheStepRelation : Prop :=
  ∀ s t : State, step s = .next t → TableRow s t ∨ OutsideMoves s t

/-- R118: with an operation outstanding, the block in a phase that waits for it and chip-select low, as long as neither a
completion nor a reset comes from outside the block stays as it is for ever: the same phase, the same outstanding
operation, `cs_n` 0, BUSY 1, no event, so no response and no acceptance; when nothing more will come, no step is
enabled (the name of that stuck state is the model's, log entry 8); and a reset, when it comes, ends it. -/
def Obligations.OutstandingOperationHangs : Prop :=
  ∀ (s : State) (op : BusOp), s.busOp = some op → s.phase ≠ .idle → s.phase ≠ .resp → s.csN = false →
    ((∀ i ∈ s.inputs, isDoneOrReset i = false) →
      (∀ (k : Nat) (t : State), runSteps k s = .next t →
        t.phase = s.phase ∧ t.busOp = some op ∧ t.csN = false ∧ t.status.getLsbD 0 = true ∧
        t.rspValid = false ∧ t.events = s.events) ∧
      (s.inputs = [] → step s = .fault .hang)) ∧
    (∀ rest, s.inputs = .reset :: rest →
      ∃ t, step s = .next t ∧ t.phase = .idle ∧ t.csN = true ∧ t.busOp = none ∧ t.reqReady = true)

/-- R114: a faulted block that is idle accepts nothing and makes no bus event, keeps `cs_n = 1` and its fault record,
and is never ready, in any number of steps in which no reset comes; when nothing more comes, no step is enabled (the
name of that stuck state is the model's, log entry 8); and a reset clears the fault record. -/
def Obligations.FaultIsSticky : Prop :=
  ∀ s : State, s.phase = .idle → s.faulted = true → s.csN = true →
    ((∀ i ∈ s.inputs, i ≠ .reset) →
      (∀ (k : Nat) (t : State), runSteps k s = .next t →
        t.phase = .idle ∧ t.faulted = true ∧ t.faultCode = s.faultCode ∧ t.csN = true ∧ t.reqReady = false ∧
        t.events = s.events) ∧
      (s.inputs = [] → step s = .fault .waitReset)) ∧
    (∀ rest, s.inputs = .reset :: rest →
      ∃ t, step s = .next t ∧ t.faulted = false ∧ t.faultCode = 0#2 ∧ t.reqReady = true)

/-- R24, R31, R115: the fault record changes only by fault entry at acceptance and by reset. A faulted block accepts
nothing and keeps its code until reset, and a block that was not faulted becomes so only by accepting a word that
decodes to a fault, with that fault's code. -/
def Obligations.FaultRecordChangesOnlyByFaultEntryAndReset : Prop :=
  ∀ s t : State, step s = .next t → s.inputs.head? ≠ some .reset →
    (s.faulted = true → t.faulted = true ∧ t.faultCode = s.faultCode ∧
      ∀ cmd, .accept cmd ∉ t.events.drop s.events.length) ∧
    (s.faulted = false → t.faulted = true →
      Accepts s ∧ ∃ c, classify s.reqCmd = .error c ∧ t.faultCode = c.bits) ∧
    (s.faulted = false → t.faulted = false → t.faultCode = s.faultCode)

/-- R22, R81: `cs_n` falls only in the acceptance step of a bus request that does not fault, and rises only in the step
that completes an outstanding operation or in a reset; in each case the event is recorded. -/
def Obligations.ChipSelectMovesOnlyAtWindowEdges : Prop :=
  ∀ s t : State, step s = .next t →
    (s.csN = true → t.csN = false →
      Accepts s ∧ .csAssert ∈ t.events.drop s.events.length ∧
      ∃ a n, classify s.reqCmd = .ok (.writeReg a n) ∨ classify s.reqCmd = .ok (.readReg a n) ∨
        classify s.reqCmd = .ok (.readBurst a n)) ∧
    (s.csN = false → t.csN = true →
      .csDeassert ∈ t.events.drop s.events.length ∧
      (s.inputs.head? = some .reset ∨ ∃ d op, s.inputs.head? = some (.done d) ∧ s.busOp = some op))

/-- R89: a bus request's response comes in the step of its `CS_DEASSERT` and after it: a step that enters RESP from a
phase that waits for the bus leaves `cs_n = 1`, `rsp_status = 0`, nothing outstanding, and ends its events with
`CS_DEASSERT` and the response. -/
def Obligations.ResponseFollowsDeassert : Prop :=
  ∀ s t : State, step s = .next t → s.phase ≠ .idle → s.phase ≠ .resp → t.phase = .resp →
    t.csN = true ∧ t.rspStatus = 0#2 ∧ t.busOp = none ∧
    ∃ front e, t.events = s.events ++ front ++ [.csDeassert, e] ∧
      (e = .respOk ∨ ∃ d, e = .respData d)

/-! ## Whole requests -/

/-- R91 and the first row of R90: a WRITE_REG that does not fault, presented to a ready block whose platform completes,
sends exactly the frame `F` with `F[0] = addr << 1`, `F[1..n+1] = payload`, length `n + 1` at most 32, in exactly the
events of R90, and ends in the response OK with length 0. -/
def Obligations.WholeWriteTransaction : Prop :=
  ∀ (s : State) (a : DevAddr) (n : Size) (rest : List Input),
    acceptsNow s → s.reqCmd = encode (.writeReg a n) → n.toNat ≤ 31 → s.inputs = .done [] :: rest →
      ∃ t frame, runSteps 2 s = .next t ∧
        frame.length = n.toNat + 1 ∧ frame.length ≤ 32 ∧ frame[0]? = some ((a.setWidth 8 : Byte) <<< 1) ∧
        (∀ i, i < n.toNat → frame[i + 1]? = s.reqData[i]?) ∧
        t.phase = .resp ∧ t.csN = true ∧ t.rspStatus = 0#2 ∧ t.rspLen = 0#6 ∧ t.inputs = rest ∧
        t.events = s.events ++
          [.accept s.reqCmd, .csAssert, .issue (.tx frame), .done, .csDeassert, .respOk]

/-- The second row of R90 (R85): a READ_REG of 1 to 63 bytes, the whole request. -/
def Obligations.WholeReadTransaction : Prop :=
  ∀ (s : State) (a : DevAddr) (n : Size) (d : List Byte) (rest : List Input),
    acceptsNow s → s.reqCmd = encode (.readReg a n) → n ≠ 0#6 → d.length = n.toNat →
    s.inputs = .done [] :: .done d :: rest →
      ∃ t, runSteps 3 s = .next t ∧ t.phase = .resp ∧ t.csN = true ∧ t.rspStatus = 0#2 ∧ t.rspLen = n ∧
        t.rspBytes = d ∧ t.inputs = rest ∧
        t.events = s.events ++
          [.accept s.reqCmd, .csAssert, .issue (.tx [addrByte a]), .done, .issue (.rx n.toNat), .doneData d,
           .csDeassert, .respData d]

/-- R86: a READ_REG with SIZE 0 sends the address phase and leaves out the data phase; its response has length 0. -/
def Obligations.ReadOfSizeZeroHasNoDataPhase : Prop :=
  ∀ (s : State) (a : DevAddr) (rest : List Input),
    acceptsNow s → s.reqCmd = encode (.readReg a 0#6) → s.inputs = .done [] :: rest →
      ∃ t, runSteps 2 s = .next t ∧ t.phase = .resp ∧ t.csN = true ∧ t.rspStatus = 0#2 ∧ t.rspLen = 0#6 ∧
        t.inputs = rest ∧
        t.events = s.events ++
          [.accept s.reqCmd, .csAssert, .issue (.tx [addrByte a]), .done, .csDeassert, .respData []]

/-- The fourth row of R90 (R87, R88): a READ_BURST, the whole request, with some 9 filler bytes of which nothing is
said; and the response is the same whichever draw the filler comes from. -/
def Obligations.WholeBurstTransaction : Prop :=
  ∀ (s : State) (d : List Byte) (rest : List Input),
    acceptsNow s → s.reqCmd = encode (.readBurst 0#7 0#6) → d.length = 9 →
    s.inputs = .done [] :: .done d :: rest →
      (∃ t f, runSteps 3 s = .next t ∧ f.length = 9 ∧ t.phase = .resp ∧ t.csN = true ∧ t.rspStatus = 0#2 ∧
        t.rspLen = 9#6 ∧ t.rspBytes = d ∧ t.inputs = rest ∧
        t.events = s.events ++
          [.accept s.reqCmd, .csAssert, .issue (.tx [s.burstCmd]), .done, .issue (.xfer f), .doneData d,
           .csDeassert, .respData d]) ∧
      (∀ (draws : Nat) (t u : State), runSteps 3 s = .next t → runSteps 3 { s with draws := draws } = .next u →
        u.phase = t.phase ∧ u.csN = t.csN ∧ u.rspStatus = t.rspStatus ∧ u.rspLen = t.rspLen ∧
        u.rspBytes = t.rspBytes)

/-! ## The decoder and what a request reads -/

/-- R101: `value = sext_32(v24)`, `signed_32(value) = signed_24(v24) = v24 - 2^24 * b2[7]`; with `b2[7]` set the value
is in `[-2^23, -1]`, with it clear in `[0, 2^23 - 1]`. For every three bytes. -/
def Obligations.DecodeIsExactSignExtension : Prop :=
  ∀ b2 b1 b0 : Byte,
    decodeAxis b2 b1 b0 = (axisField b2 b1 b0).signExtend 32 ∧
    (decodeAxis b2 b1 b0).toInt = (axisField b2 b1 b0).toInt ∧
    (decodeAxis b2 b1 b0).toInt = (axisField b2 b1 b0).toNat - 2 ^ 24 * (if b2.getLsbD 7 then 1 else 0 : Int) ∧
    (axisField b2 b1 b0).toNat = b2.toNat * 2 ^ 16 + b1.toNat * 2 ^ 8 + b0.toNat ∧
    (b2.getLsbD 7 = true → -(2 ^ 23 : Int) ≤ (decodeAxis b2 b1 b0).toInt ∧ (decodeAxis b2 b1 b0).toInt ≤ -1) ∧
    (b2.getLsbD 7 = false → 0 ≤ (decodeAxis b2 b1 b0).toInt ∧ (decodeAxis b2 b1 b0).toInt ≤ 2 ^ 23 - 1)

/-- R105 and the lanes of R102: in any two states, whatever else differs, DECODE_WINDOW gives equal counts for equal
window bytes, lane by lane, and DECODE24 for equal first three bytes. -/
def Obligations.DecoderReadsOnlyItsOperands : Prop :=
  ∀ s s' t t' : State,
    (exec (.decodeWindow 0#7 0#6) s = .next t → exec (.decodeWindow 0#7 0#6) s' = .next t' →
      ((∀ i (_ : i < 3), s.reqData[i] = s'.reqData[i]) → t.rspX = t'.rspX) ∧
      ((∀ i (_ : i < 3), s.reqData[i + 3] = s'.reqData[i + 3]) → t.rspY = t'.rspY) ∧
      ((∀ i (_ : i < 3), s.reqData[i + 6] = s'.reqData[i + 6]) → t.rspZ = t'.rspZ)) ∧
    (exec (.decode24 0#7 0#6) s = .next t → exec (.decode24 0#7 0#6) s' = .next t' →
      (∀ i (_ : i < 3), s.reqData[i] = s'.reqData[i]) → t.rspX = t'.rspX)

/-- R67: how many bytes of `req_data` each request reads. Two data buffers that agree on those bytes, and nothing else,
give the same acceptance but for the port itself. -/
def Obligations.UnreadDataBytesAreIgnored : Prop :=
  (∀ (a : DevAddr) (n : Size) (r : BitVec 13),
    operandCount (.writeReg a n) = n.toNat ∧ operandCount (.readReg a n) = 0 ∧ operandCount (.readBurst a n) = 0 ∧
    operandCount (.decode24 a n) = 3 ∧ operandCount (.decodeWindow a n) = 9 ∧
    operandCount (.reservedOp5 r) = 0 ∧ operandCount (.reservedOp6 r) = 0 ∧ operandCount (.reservedOp7 r) = 0) ∧
  (∀ (i : Instr) (s t : State) (data : Vector Byte 63),
    data.toList.take (operandCount i) = s.reqData.toList.take (operandCount i) → exec i s = .next t →
      exec i { s with reqData := data } = .next { t with reqData := data })

/-- STATUS and the handshake outputs (R25 to R27): bit 0 is BUSY, bit 1 `faulted`, bits 3:2 the code, bits 7:4 read 0;
`req_ready` is `phase = IDLE and faulted = 0`, `rsp_valid` is `phase = RESP`. -/
def Obligations.StatusAndHandshakeViews : Prop :=
  ∀ s : State,
    (s.status.getLsbD 0 = true ↔ s.phase ≠ .idle) ∧ s.status.getLsbD 1 = s.faulted ∧
    s.status.extractLsb' 2 2 = s.faultCode ∧ s.status.extractLsb' 4 4 = 0#4 ∧
    (s.reqReady = true ↔ s.phase = .idle ∧ s.faulted = false) ∧ (s.rspValid = true ↔ s.phase = .resp)

/-! ## The device register space -/

/-- R41 (log entry 12): after a write transaction's commit, register `a + i` holds `s[i]`, every other register what it
held, and the space stays in canonical form; where a byte would go past register 0x7F nothing is known any more (D30,
I7: the spec's own choice). -/
def Obligations.CommittedWriteReadsBack : Prop :=
  ∀ (m : Memory) (a : DevAddr) (bytes : List Byte),
    (a.toNat + bytes.length ≤ 128 →
      (∀ i v, bytes[i]? = some v → (m.commit a bytes).read (a.toNat + i) = some v) ∧
      (∀ b, b < a.toNat ∨ a.toNat + bytes.length ≤ b → (m.commit a bytes).read b = m.read b)) ∧
    (128 < a.toNat + bytes.length → ∀ b, (m.commit a bytes).read b = none) ∧
    (m.wf = true → (m.commit a bytes).wf = true)

/-- R41, R42, R56: what is known of the device changes only at the `CS_DEASSERT` of a write, by a reset of the block
(R132) or when the device loses power: in every step that is none of these, in W_FRAME too, it is unchanged. A write's commit stores its payload at the registers its frame names, in the
step of its `CS_DEASSERT`, all bytes at once, and changes no other register. -/
def Obligations.DeviceChangesOnlyAtWriteDeassert : Prop :=
  ∀ s t : State, step s = .next t →
    (¬(s.phase = .wFrame ∧ ∃ d, s.inputs.head? = some (.done d)) → s.inputs.head? ≠ some .reset →
      s.inputs.head? ≠ some .devicePowerLoss → t.device = s.device) ∧
    (∀ (d : List Byte) (a : DevAddr) (bytes : List Byte), s.phase = .wFrame → s.inputs.head? = some (.done d) →
      sentFrame s = addrByte a :: bytes → t.device = s.device.commit a bytes)

/-- R44, R47, R52, R73: the cycle-count round trip, for every address `first` that `REG_CC_FIRST` may have. After the
commit of a write of `WCC c`'s payload there, the six registers hold the high and low byte once per axis, and they
reassemble to `c`; and a one-byte read of one of them, answered as the constraint of R44 asks, returns that byte. -/
def Obligations.CycleCountRoundTrip : Prop :=
  ∀ (first : DevAddr) (c : BitVec 16) (m : Memory), first.toNat + 6 ≤ 128 →
    ∃ high low : Byte, cycleCountOf high low = c ∧
      (∀ axis, axis < 3 →
        (m.commit first (cycleCountBytes c)).read (first.toNat + 2 * axis) = some high ∧
        (m.commit first (cycleCountBytes c)).read (first.toNat + 2 * axis + 1) = some low) ∧
      (∀ (s t : State) (d : List Byte) (i : Nat), i < 6 →
        s.device = m.commit first (cycleCountBytes c) → s.phase = .rData → s.curSize = 1#6 →
        s.curAddr.toNat = first.toNat + i → s.inputs.head? = some (.done d) →
        answerKeepsCycleCount first s d → step s = .next t →
          t.rspBytes = [if i % 2 = 0 then high else low])

/-! ## The request syntax -/

/-- R72: a line that the assembler accepts is a legal request whose operand bytes are as many as the request reads, and
it accepts a write of every register and every payload of at most 31 bytes. -/
def Obligations.AssemblerEmitsLegalRequests : Prop :=
  (∀ (line : AsmLine) (r : AsmRequest), assemble line = .ok r →
    (decode r.cmd).wellFormed = true ∧ classify r.cmd = .ok (decode r.cmd) ∧
      r.operands.length = operandCount (decode r.cmd)) ∧
  (∀ (a : Nat) (bytes : List Nat), a < 128 → (∀ b ∈ bytes, b < 256) → bytes.length ≤ 31 →
    ∃ r, assemble (.wreg (.number a) bytes) = .ok r ∧ r.cmd.toNat = bytes.length * 1024 + a * 8 ∧
      r.operands = bytes.map (BitVec.ofNat 8)) ∧
  (∀ a n : Nat, a < 128 → n ≤ 63 →
    assemble (.rreg (.number a) n) = .ok ⟨BitVec.ofNat 16 (n * 1024 + a * 8 + 1), []⟩)

/-- R73: `WCC c` is the one WRITE_REG of SIZE 6 to `REG_CC_FIRST` with payload `[H, L, H, L, H, L]`. -/
def Obligations.CycleCountRequestIsOneSixByteWrite : Prop :=
  ∀ c : Nat, c < 2 ^ 16 →
    ∃ r, assemble (.wcc c) = .ok r ∧ decode r.cmd = .writeReg Config.regCcFirst 6#6 ∧
      r.operands.map BitVec.toNat = [c / 256, c % 256, c / 256, c % 256, c / 256, c % 256] ∧
      assemble (.wreg (.named .ccFirst 0) [c / 256, c % 256, c / 256, c % 256, c / 256, c % 256]) = .ok r

/-! ## Frames of every step -/

/-- R33, R34: no step changes `BURST_CMD`: no request, no completion, no take, no reset, nothing from outside. -/
def Obligations.NoStepChangesBurstCommand : Prop :=
  ∀ s t : State, step s = .next t → t.burstCmd = s.burstCmd

/-- What a completion leaves alone (R29, R31, R33, R93), in every phase that waits for one: the fault record, the
request port, the counts of the response, the registers of the request but `rxbuf`, `BURST_CMD`, and of what is outside
the block the late completions due and what is still to come after it. Only a receive or an exchange writes `rxbuf` and
`rsp_data`; only the end of a window writes `rsp_status` and `rsp_len`; only the issue of an exchange draws; only a
write's completion changes what is known of the device. -/
def Obligations.CompletionFrame : Prop :=
  ∀ (s t : State) (d : List Byte) (rest : List Input),
    s.inputs = .done d :: rest → (s.reqReady = false ∨ s.reqValid = false) → step s = .next t →
      t.faulted = s.faulted ∧ t.faultCode = s.faultCode ∧ t.reqValid = s.reqValid ∧ t.reqCmd = s.reqCmd ∧
      t.reqData = s.reqData ∧ t.rspX = s.rspX ∧ t.rspY = s.rspY ∧ t.rspZ = s.rspZ ∧ t.frame = s.frame ∧
      t.frameLen = s.frameLen ∧ t.curAddr = s.curAddr ∧ t.curSize = s.curSize ∧ t.burstCmd = s.burstCmd ∧
      t.abandoned = s.abandoned ∧ t.inputs = rest ∧
      (s.phase ≠ .rData → s.phase ≠ .bData → t.rxbuf = s.rxbuf ∧ t.rspData = s.rspData) ∧
      (t.phase ≠ .resp → t.rspStatus = s.rspStatus ∧ t.rspLen = s.rspLen ∧ t.csN = s.csN) ∧
      (s.phase ≠ .bCmd → t.draws = s.draws) ∧
      (s.phase ≠ .wFrame → ∀ b, t.device.read b = s.device.read b)
end

