-- ==== Sys2Proof/Laws/Bytes.lean ====
section
/-! SUPPORT. What the byte-buffer operations do, once: the front of a buffer after a write into it, what stays behind
it, and the lengths of free buffers and fillers. -/

namespace Sys2Proof.Laws

open Sys2Proof.Machine

@[simp] theorem drawBytes_toList (n : Nat) (draw : Nat → Byte) :
    (drawBytes n draw).toList = (List.range n).map draw := by
  simp [drawBytes]

@[simp] theorem overlay_toList {n : Nat} (bytes : List Byte) (base : Vector Byte n) :
    (overlay bytes base).toList = (bytes ++ base.toList.drop bytes.length).take n := by
  simp [overlay]

/-- Writing no byte leaves the buffer as it is. -/
@[simp] theorem overlay_nil {n : Nat} (base : Vector Byte n) : overlay [] base = base := by
  apply Vector.toList_inj.1
  simp

/-- The bytes written are read back, in order. -/
theorem frontBytes_overlay {n : Nat} (bytes : List Byte) (base : Vector Byte n) (h : bytes.length ≤ n) :
    frontBytes bytes.length (overlay bytes base) = bytes := by
  simp [frontBytes, List.take_take, Nat.min_eq_left h]

/-- A byte the write does not reach stays. -/
theorem overlay_getElem_above {n : Nat} (bytes : List Byte) (base : Vector Byte n) (i : Nat) (hi : i < n)
    (h : bytes.length ≤ i) : (overlay bytes base)[i] = base[i] := by
  have hl : (overlay bytes base).toList[i]? = base.toList[i]? := by
    rw [overlay_toList, List.getElem?_take_of_lt hi, List.getElem?_append_right h, List.getElem?_drop]
    congr 1
    omega
  have e₁ := List.getElem?_eq_getElem (l := (overlay bytes base).toList) (i := i) (by rwa [Vector.length_toList])
  have e₂ := List.getElem?_eq_getElem (l := base.toList) (i := i) (by simpa using hi)
  rw [e₁, e₂, Option.some.injEq, Vector.getElem_toList, Vector.getElem_toList] at hl
  exact hl

theorem frontBytes_length {n : Nat} (count : Nat) (base : Vector Byte n) (h : count ≤ n) :
    (frontBytes count base).length = count := by
  simp [frontBytes, Nat.min_eq_left h]

/-- A payload is as long as SIZE says (R67). -/
@[simp] theorem payload_length (size : Size) (s : State) : (payload size s).length = size.toNat :=
  frontBytes_length _ _ (by have := size.isLt; omega)

/-- A write frame is one byte longer than its payload (R62). -/
@[simp] theorem writeFrame_length (addr : DevAddr) (size : Size) (s : State) :
    (writeFrame addr size s).length = size.toNat + 1 := by
  simp [writeFrame]

/-- The filler has 9 bytes whatever they are (R64). -/
@[simp] theorem filler_length (s : State) : (filler s).length = Config.windowLen := by
  simp [filler]

end Sys2Proof.Laws
end

