-- ==== Sys2Proof/Laws/Decode.lean ====
section
/-! SUPPORT. The fields of a command word that was put together from its fields. -/

namespace Sys2Proof.Laws

@[simp] theorem opField_requestWord (size : Size) (addr : DevAddr) (op : BitVec 3) :
    opField (requestWord size addr op) = op := by
  ext i hi
  simp only [opField, requestWord, BitVec.getElem_extractLsb', BitVec.getLsbD_append, Nat.zero_add, hi, if_true,
    BitVec.getLsbD_eq_getElem]

@[simp] theorem addrField_requestWord (size : Size) (addr : DevAddr) (op : BitVec 3) :
    addrField (requestWord size addr op) = addr := by
  ext i hi
  have h₁ : ¬ 3 + i < 3 := by omega
  have h₂ : 3 + i - 3 = i := by omega
  simp only [addrField, requestWord, BitVec.getElem_extractLsb', BitVec.getLsbD_append, h₁, if_false, h₂, hi,
    if_true, BitVec.getLsbD_eq_getElem]

@[simp] theorem sizeField_requestWord (size : Size) (addr : DevAddr) (op : BitVec 3) :
    sizeField (requestWord size addr op) = size := by
  ext i hi
  have h₁ : ¬ 10 + i < 3 := by omega
  have h₂ : ¬ 10 + i - 3 < 7 := by omega
  have h₃ : 10 + i - 3 - 7 = i := by omega
  simp only [sizeField, requestWord, BitVec.getElem_extractLsb', BitVec.getLsbD_append, h₁, if_false, h₂, h₃, hi,
    BitVec.getLsbD_eq_getElem]

end Sys2Proof.Laws
end

