-- ==== Sys2Proof/Laws/Memory.lean ====
section
/-! SUPPORT. The laws of the device register space: a read after a write, and that every operation keeps the canonical
form. -/

namespace Sys2Proof.Laws

open Sys2Proof.Machine

theorem read_write_same (m : Memory) (a : Nat) (v : Byte) : (m.write a v).read a = some v := by
  induction m with
  | nil => simp [Memory.write, Memory.read]
  | cons c rest ih =>
    obtain ⟨b, w⟩ := c
    simp only [Memory.write]
    split
    · simp [Memory.read]
    · split
      · simp [Memory.read]
      · simp [Memory.read, *]

theorem read_write_other (m : Memory) (a b : Nat) (v : Byte) (h : b ≠ a) : (m.write a v).read b = m.read b := by
  induction m with
  | nil => simp [Memory.write, Memory.read, h]
  | cons c rest ih =>
    obtain ⟨d, w⟩ := c
    simp only [Memory.write]
    split
    · simp [Memory.read, h]
    · split
      · subst_vars
        simp [Memory.read, h]
      · simp [Memory.read, ih]

theorem wfFrom_mono {low low' : Nat} {m : Memory} (h : low ≤ low') (hm : Memory.wfFrom low' m = true) :
    Memory.wfFrom low m = true := by
  cases m with
  | nil => rfl
  | cons c rest =>
    simp only [Memory.wfFrom, Bool.and_eq_true, decide_eq_true_eq] at hm ⊢
    exact ⟨⟨by omega, hm.1.2⟩, hm.2⟩

theorem write_wfFrom {low a : Nat} {m : Memory} (v : Byte) (hl : low ≤ a) (ha : a < Config.deviceRegisters)
    (hm : Memory.wfFrom low m = true) : Memory.wfFrom low (m.write a v) = true := by
  induction m generalizing low with
  | nil => simp [Memory.write, Memory.wfFrom, hl, ha]
  | cons c rest ih =>
    obtain ⟨b, w⟩ := c
    simp only [Memory.wfFrom, Bool.and_eq_true, decide_eq_true_eq] at hm
    obtain ⟨⟨h₁, h₂⟩, h₃⟩ := hm
    simp only [Memory.write]
    split
    · simp [Memory.wfFrom, hl, ha, h₂, h₃]
      omega
    · split
      · subst_vars
        simp [Memory.wfFrom, hl, ha, h₃]
      · have := ih (low := b + 1) (by omega) h₃
        simp [Memory.wfFrom, h₁, h₂, this]

/-- Writing a register keeps the canonical form. -/
theorem write_wf {a : Nat} {m : Memory} (v : Byte) (ha : a < Config.deviceRegisters) (hm : m.wf = true) :
    (m.write a v).wf = true :=
  write_wfFrom v (Nat.zero_le _) ha hm

/-- `MemWrite` keeps the canonical form. -/
theorem writeBytes_wf {a : Nat} {m : Memory} (bytes : List Byte)
    (ha : a + bytes.length ≤ Config.deviceRegisters) (hm : m.wf = true) : (m.writeBytes a bytes).wf = true := by
  induction bytes generalizing a m with
  | nil => simpa [Memory.writeBytes] using hm
  | cons v rest ih =>
    simp only [List.length_cons] at ha
    exact ih (by omega) (write_wf v (by omega) hm)

theorem empty_wf : Memory.wf [] = true := rfl

/-- What a write transaction does keeps the canonical form. -/
theorem commit_wf {m : Memory} (addr : DevAddr) (bytes : List Byte) (hm : m.wf = true) :
    (m.commit addr bytes).wf = true := by
  unfold Memory.commit
  split
  · exact writeBytes_wf bytes ‹_› hm
  · rfl

/-- `MemWrite` leaves every register outside the bytes alone. -/
theorem read_writeBytes_outside {m : Memory} {a b : Nat} (bytes : List Byte)
    (h : b < a ∨ a + bytes.length ≤ b) : (m.writeBytes a bytes).read b = m.read b := by
  induction bytes generalizing a m with
  | nil => rfl
  | cons v rest ih =>
    simp only [List.length_cons] at h
    rw [Memory.writeBytes, ih (by omega), read_write_other _ _ _ _ (by omega)]

/-- `MemWrite` puts `s[i]` into register `a + i`. -/
theorem read_writeBytes_inside {m : Memory} {a : Nat} (bytes : List Byte) (i : Nat) (h : i < bytes.length) :
    (m.writeBytes a bytes).read (a + i) = some bytes[i] := by
  induction bytes generalizing a m i with
  | nil => simp at h
  | cons v rest ih =>
    rw [Memory.writeBytes]
    cases i with
    | zero => simpa [read_write_same] using read_writeBytes_outside (m := m.write a v) (b := a) rest (by omega)
    | succ j =>
      have := ih (m := m.write a v) (a := a + 1) j (by simpa using h)
      simpa [Nat.add_assoc, Nat.add_comm 1 j] using this

end Sys2Proof.Laws
end

