-- ==== Sys2Proof/Laws/Monitor.lean ====
section
/-! SUPPORT. The protocol monitor: each transition once, runs over an appended record, and where a state of each phase
stands. -/

namespace Sys2Proof.Laws

open Sys2Proof.Machine
open Sys2Proof.Safety

/-! One lemma per transition that the protocol allows. -/

@[simp] theorem next_quiet_accept (cmd : Cmd) : Monitor.next .quiet (.accept cmd) = some .accepted := rfl
@[simp] theorem next_quiet_reset : Monitor.next .quiet .reset = some .quiet := rfl
@[simp] theorem next_accepted_csAssert : Monitor.next .accepted .csAssert = some .selected := rfl
@[simp] theorem next_accepted_respFault (c : BitVec 2) :
    Monitor.next .accepted (.respFault c) = some .responded := rfl
@[simp] theorem next_accepted_respCount (x : Count) :
    Monitor.next .accepted (.respCount x) = some .responded := rfl
@[simp] theorem next_accepted_respCounts (x y z : Count) :
    Monitor.next .accepted (.respCounts x y z) = some .responded := rfl
@[simp] theorem next_busy_reset (op : BusOp) : Monitor.next (.busy op) .reset = some .cut := rfl
@[simp] theorem next_sent_csDeassert : Monitor.next .sent .csDeassert = some .released := rfl
@[simp] theorem next_received_csDeassert : Monitor.next .received .csDeassert = some .released := rfl
@[simp] theorem next_released_respOk : Monitor.next .released .respOk = some .responded := rfl
@[simp] theorem next_released_respData (d : List Byte) :
    Monitor.next .released (.respData d) = some .responded := rfl
@[simp] theorem next_responded_take : Monitor.next .responded .take = some .quiet := rfl
@[simp] theorem next_responded_reset : Monitor.next .responded .reset = some .quiet := rfl
@[simp] theorem next_cut_csDeassert : Monitor.next .cut .csDeassert = some .quiet := rfl

theorem next_selected_issue {op : BusOp} (h : opensTransaction op = true) :
    Monitor.next .selected (.issue op) = some (.busy op) := by
  show (if opensTransaction op then some (Monitor.busy op) else none) = _
  rw [if_pos h]

theorem next_sent_issue {op : BusOp} (h : continuesTransaction op = true) :
    Monitor.next .sent (.issue op) = some (.busy op) := by
  show (if continuesTransaction op then some (Monitor.busy op) else none) = _
  rw [if_pos h]

/-- A completion of the right length answers the outstanding operation (R82). -/
theorem answers_doneEvent {op : BusOp} {d : List Byte} (h : d.length = replyLength op) :
    answers op (doneEvent op d) = true := by
  cases op with
  | tx b => rfl
  | rx n => exact decide_eq_true h
  | xfer b => exact decide_eq_true h

theorem next_busy_doneEvent {op : BusOp} {d : List Byte} (h : d.length = replyLength op) :
    Monitor.next (.busy op) (doneEvent op d) = some (afterAnswer op) := by
  have ha := answers_doneEvent h
  cases op with
  | tx b => rfl
  | rx n =>
    show (if answers (.rx n) (.doneData d) then some Monitor.received else none) = _
    exact if_pos ha
  | xfer b =>
    show (if answers (.xfer b) (.doneData d) then some Monitor.received else none) = _
    exact if_pos ha

/-! Runs. -/

@[simp] theorem run_nil (m : Monitor) : Monitor.run m [] = some m := rfl

@[simp] theorem run_cons (m : Monitor) (e : Event) (es : List Event) :
    Monitor.run m (e :: es) = (m.next e).bind fun m' => Monitor.run m' es := by
  show (match m.next e with | some m' => Monitor.run m' es | none => none) = _
  cases m.next e <;> rfl

theorem run_append (m : Monitor) (l r : List Event) :
    Monitor.run m (l ++ r) = (Monitor.run m l).bind fun m' => Monitor.run m' r := by
  induction l generalizing m with
  | nil => rfl
  | cons e es ih =>
    simp only [List.cons_append, run_cons]
    cases m.next e with
    | none => rfl
    | some m' => exact ih m'

/-! Where a state stands. -/

theorem monitorOf_idle {s : State} (h : s.phase = .idle) : monitorOf s = .quiet := by
  simp [monitorOf, h]

theorem monitorOf_resp {s : State} (h : s.phase = .resp) : monitorOf s = .responded := by
  simp [monitorOf, h]

theorem monitorOf_busy {s : State} {op : BusOp} (h : s.busOp = some op) (hi : s.phase ≠ .idle)
    (hr : s.phase ≠ .resp) : monitorOf s = .busy op := by
  cases hp : s.phase <;> simp_all [monitorOf]

end Sys2Proof.Laws
end

