-- ==== Sys2Proof/Laws/PerInstr.lean ====
section
/-! SUPPORT. Statements about every request as syntax, one lemma per constructor. The family LegalMeansNoFault: a
request is legal exactly when it raises no fault at acceptance (R68 against R110). -/

namespace Sys2Proof.Laws.LegalMeansNoFault

/-- The two readings of "legal" agree. -/
def Statement (i : Instr) : Prop := i.wellFormed = true ↔ faultOf i = none

/-- The reserved-field test of R69 item 2 against the legality test of R68. -/
theorem fieldsAreZero_iff (addr : DevAddr) (size : Size) :
    fieldsAreZero addr size = true ↔ reservedFieldFault addr size = none := by
  simp [fieldsAreZero, reservedFieldFault]

theorem writeReg (addr : DevAddr) (size : Size) : Statement (.writeReg addr size) := by
  show decide (size.toNat ≤ 31) = true ↔ (if 32 < size.toNat + 1 then some FaultCode.frameTooLong else none) = none
  rw [decide_eq_true_iff]
  split <;> simp <;> omega

theorem readReg (addr : DevAddr) (size : Size) : Statement (.readReg addr size) := by
  simp [Statement, Instr.wellFormed, faultOf]

theorem readBurst (addr : DevAddr) (size : Size) : Statement (.readBurst addr size) :=
  fieldsAreZero_iff addr size

theorem decode24 (addr : DevAddr) (size : Size) : Statement (.decode24 addr size) :=
  fieldsAreZero_iff addr size

theorem decodeWindow (addr : DevAddr) (size : Size) : Statement (.decodeWindow addr size) :=
  fieldsAreZero_iff addr size

theorem reservedOp5 (rest : BitVec 13) : Statement (.reservedOp5 rest) := by
  simp [Statement, Instr.wellFormed, faultOf]

theorem reservedOp6 (rest : BitVec 13) : Statement (.reservedOp6 rest) := by
  simp [Statement, Instr.wellFormed, faultOf]

theorem reservedOp7 (rest : BitVec 13) : Statement (.reservedOp7 rest) := by
  simp [Statement, Instr.wellFormed, faultOf]

end Sys2Proof.Laws.LegalMeansNoFault
end

