-- ==== Sys2Proof/Laws/State.lean ====
section
/-! SUPPORT. One lemma per field per update of the state, each true by rfl, so that no proof unfolds a record update. -/

namespace Sys2Proof.Laws

open Sys2Proof.Machine

/-! `State.record`. -/

@[simp] theorem record_csN (s : State) (es : List Event) : (s.record es).csN = s.csN := rfl
@[simp] theorem record_phase (s : State) (es : List Event) : (s.record es).phase = s.phase := rfl
@[simp] theorem record_faulted (s : State) (es : List Event) : (s.record es).faulted = s.faulted := rfl
@[simp] theorem record_faultCode (s : State) (es : List Event) : (s.record es).faultCode = s.faultCode := rfl
@[simp] theorem record_reqValid (s : State) (es : List Event) : (s.record es).reqValid = s.reqValid := rfl
@[simp] theorem record_reqCmd (s : State) (es : List Event) : (s.record es).reqCmd = s.reqCmd := rfl
@[simp] theorem record_reqData (s : State) (es : List Event) : (s.record es).reqData = s.reqData := rfl
@[simp] theorem record_rspStatus (s : State) (es : List Event) : (s.record es).rspStatus = s.rspStatus := rfl
@[simp] theorem record_rspLen (s : State) (es : List Event) : (s.record es).rspLen = s.rspLen := rfl
@[simp] theorem record_rspData (s : State) (es : List Event) : (s.record es).rspData = s.rspData := rfl
@[simp] theorem record_rspX (s : State) (es : List Event) : (s.record es).rspX = s.rspX := rfl
@[simp] theorem record_rspY (s : State) (es : List Event) : (s.record es).rspY = s.rspY := rfl
@[simp] theorem record_rspZ (s : State) (es : List Event) : (s.record es).rspZ = s.rspZ := rfl
@[simp] theorem record_frame (s : State) (es : List Event) : (s.record es).frame = s.frame := rfl
@[simp] theorem record_frameLen (s : State) (es : List Event) : (s.record es).frameLen = s.frameLen := rfl
@[simp] theorem record_curAddr (s : State) (es : List Event) : (s.record es).curAddr = s.curAddr := rfl
@[simp] theorem record_curSize (s : State) (es : List Event) : (s.record es).curSize = s.curSize := rfl
@[simp] theorem record_rxbuf (s : State) (es : List Event) : (s.record es).rxbuf = s.rxbuf := rfl
@[simp] theorem record_busOp (s : State) (es : List Event) : (s.record es).busOp = s.busOp := rfl
@[simp] theorem record_burstCmd (s : State) (es : List Event) : (s.record es).burstCmd = s.burstCmd := rfl
@[simp] theorem record_device (s : State) (es : List Event) : (s.record es).device = s.device := rfl
@[simp] theorem record_abandoned (s : State) (es : List Event) : (s.record es).abandoned = s.abandoned := rfl
@[simp] theorem record_events (s : State) (es : List Event) : (s.record es).events = s.events ++ es := rfl
@[simp] theorem record_inputs (s : State) (es : List Event) : (s.record es).inputs = s.inputs := rfl
@[simp] theorem record_draws (s : State) (es : List Event) : (s.record es).draws = s.draws := rfl

/-! `State.setInputs`. -/

@[simp] theorem setInputs_csN (s : State) (rest : List Input) : (s.setInputs rest).csN = s.csN := rfl
@[simp] theorem setInputs_phase (s : State) (rest : List Input) : (s.setInputs rest).phase = s.phase := rfl
@[simp] theorem setInputs_faulted (s : State) (rest : List Input) : (s.setInputs rest).faulted = s.faulted := rfl
@[simp] theorem setInputs_faultCode (s : State) (rest : List Input) :
    (s.setInputs rest).faultCode = s.faultCode := rfl
@[simp] theorem setInputs_reqValid (s : State) (rest : List Input) : (s.setInputs rest).reqValid = s.reqValid := rfl
@[simp] theorem setInputs_reqCmd (s : State) (rest : List Input) : (s.setInputs rest).reqCmd = s.reqCmd := rfl
@[simp] theorem setInputs_reqData (s : State) (rest : List Input) : (s.setInputs rest).reqData = s.reqData := rfl
@[simp] theorem setInputs_rspStatus (s : State) (rest : List Input) :
    (s.setInputs rest).rspStatus = s.rspStatus := rfl
@[simp] theorem setInputs_rspLen (s : State) (rest : List Input) : (s.setInputs rest).rspLen = s.rspLen := rfl
@[simp] theorem setInputs_rspData (s : State) (rest : List Input) : (s.setInputs rest).rspData = s.rspData := rfl
@[simp] theorem setInputs_rspX (s : State) (rest : List Input) : (s.setInputs rest).rspX = s.rspX := rfl
@[simp] theorem setInputs_rspY (s : State) (rest : List Input) : (s.setInputs rest).rspY = s.rspY := rfl
@[simp] theorem setInputs_rspZ (s : State) (rest : List Input) : (s.setInputs rest).rspZ = s.rspZ := rfl
@[simp] theorem setInputs_frame (s : State) (rest : List Input) : (s.setInputs rest).frame = s.frame := rfl
@[simp] theorem setInputs_frameLen (s : State) (rest : List Input) : (s.setInputs rest).frameLen = s.frameLen := rfl
@[simp] theorem setInputs_curAddr (s : State) (rest : List Input) : (s.setInputs rest).curAddr = s.curAddr := rfl
@[simp] theorem setInputs_curSize (s : State) (rest : List Input) : (s.setInputs rest).curSize = s.curSize := rfl
@[simp] theorem setInputs_rxbuf (s : State) (rest : List Input) : (s.setInputs rest).rxbuf = s.rxbuf := rfl
@[simp] theorem setInputs_busOp (s : State) (rest : List Input) : (s.setInputs rest).busOp = s.busOp := rfl
@[simp] theorem setInputs_burstCmd (s : State) (rest : List Input) : (s.setInputs rest).burstCmd = s.burstCmd := rfl
@[simp] theorem setInputs_device (s : State) (rest : List Input) : (s.setInputs rest).device = s.device := rfl
@[simp] theorem setInputs_abandoned (s : State) (rest : List Input) :
    (s.setInputs rest).abandoned = s.abandoned := rfl
@[simp] theorem setInputs_events (s : State) (rest : List Input) : (s.setInputs rest).events = s.events := rfl
@[simp] theorem setInputs_inputs (s : State) (rest : List Input) : (s.setInputs rest).inputs = rest := rfl
@[simp] theorem setInputs_draws (s : State) (rest : List Input) : (s.setInputs rest).draws = s.draws := rfl

/-! `State.forget`. -/

@[simp] theorem forget_csN (s : State) : s.forget.csN = s.csN := rfl
@[simp] theorem forget_phase (s : State) : s.forget.phase = s.phase := rfl
@[simp] theorem forget_faulted (s : State) : s.forget.faulted = s.faulted := rfl
@[simp] theorem forget_faultCode (s : State) : s.forget.faultCode = s.faultCode := rfl
@[simp] theorem forget_reqValid (s : State) : s.forget.reqValid = s.reqValid := rfl
@[simp] theorem forget_reqCmd (s : State) : s.forget.reqCmd = s.reqCmd := rfl
@[simp] theorem forget_reqData (s : State) : s.forget.reqData = s.reqData := rfl
@[simp] theorem forget_rspStatus (s : State) : s.forget.rspStatus = Config.rspStatus s.draws := rfl
@[simp] theorem forget_rspLen (s : State) : s.forget.rspLen = Config.rspLen s.draws := rfl
@[simp] theorem forget_rspData (s : State) : s.forget.rspData = drawBytes 63 (Config.rspByte s.draws) := rfl
@[simp] theorem forget_rspX (s : State) : s.forget.rspX = Config.rspX s.draws := rfl
@[simp] theorem forget_rspY (s : State) : s.forget.rspY = Config.rspY s.draws := rfl
@[simp] theorem forget_rspZ (s : State) : s.forget.rspZ = Config.rspZ s.draws := rfl
@[simp] theorem forget_frame (s : State) : s.forget.frame = drawBytes 32 (Config.frameByte s.draws) := rfl
@[simp] theorem forget_frameLen (s : State) : s.forget.frameLen = Config.frameLen s.draws := rfl
@[simp] theorem forget_curAddr (s : State) : s.forget.curAddr = Config.curAddr s.draws := rfl
@[simp] theorem forget_curSize (s : State) : s.forget.curSize = Config.curSize s.draws := rfl
@[simp] theorem forget_rxbuf (s : State) : s.forget.rxbuf = drawBytes 63 (Config.rxByte s.draws) := rfl
@[simp] theorem forget_busOp (s : State) : s.forget.busOp = s.busOp := rfl
@[simp] theorem forget_burstCmd (s : State) : s.forget.burstCmd = s.burstCmd := rfl
@[simp] theorem forget_device (s : State) : s.forget.device = s.device := rfl
@[simp] theorem forget_abandoned (s : State) : s.forget.abandoned = s.abandoned := rfl
@[simp] theorem forget_events (s : State) : s.forget.events = s.events := rfl
@[simp] theorem forget_inputs (s : State) : s.forget.inputs = s.inputs := rfl
@[simp] theorem forget_draws (s : State) : s.forget.draws = s.draws + 1 := rfl

/-! `State.beginRequest`. -/

@[simp] theorem beginRequest_csN (s : State) : s.beginRequest.csN = s.csN := rfl
@[simp] theorem beginRequest_phase (s : State) : s.beginRequest.phase = s.phase := rfl
@[simp] theorem beginRequest_faulted (s : State) : s.beginRequest.faulted = s.faulted := rfl
@[simp] theorem beginRequest_faultCode (s : State) : s.beginRequest.faultCode = s.faultCode := rfl
@[simp] theorem beginRequest_reqValid (s : State) : s.beginRequest.reqValid = false := rfl
@[simp] theorem beginRequest_reqCmd (s : State) : s.beginRequest.reqCmd = s.reqCmd := rfl
@[simp] theorem beginRequest_reqData (s : State) : s.beginRequest.reqData = s.reqData := rfl
@[simp] theorem beginRequest_rspStatus (s : State) : s.beginRequest.rspStatus = Config.rspStatus s.draws := rfl
@[simp] theorem beginRequest_rspLen (s : State) : s.beginRequest.rspLen = Config.rspLen s.draws := rfl
@[simp] theorem beginRequest_rspData (s : State) :
    s.beginRequest.rspData = drawBytes 63 (Config.rspByte s.draws) := rfl
@[simp] theorem beginRequest_rspX (s : State) : s.beginRequest.rspX = Config.rspX s.draws := rfl
@[simp] theorem beginRequest_rspY (s : State) : s.beginRequest.rspY = Config.rspY s.draws := rfl
@[simp] theorem beginRequest_rspZ (s : State) : s.beginRequest.rspZ = Config.rspZ s.draws := rfl
@[simp] theorem beginRequest_frame (s : State) : s.beginRequest.frame = drawBytes 32 (Config.frameByte s.draws) := rfl
@[simp] theorem beginRequest_frameLen (s : State) : s.beginRequest.frameLen = Config.frameLen s.draws := rfl
@[simp] theorem beginRequest_curAddr (s : State) : s.beginRequest.curAddr = Config.curAddr s.draws := rfl
@[simp] theorem beginRequest_curSize (s : State) : s.beginRequest.curSize = Config.curSize s.draws := rfl
@[simp] theorem beginRequest_rxbuf (s : State) : s.beginRequest.rxbuf = drawBytes 63 (Config.rxByte s.draws) := rfl
@[simp] theorem beginRequest_busOp (s : State) : s.beginRequest.busOp = s.busOp := rfl
@[simp] theorem beginRequest_burstCmd (s : State) : s.beginRequest.burstCmd = s.burstCmd := rfl
@[simp] theorem beginRequest_device (s : State) : s.beginRequest.device = s.device := rfl
@[simp] theorem beginRequest_abandoned (s : State) : s.beginRequest.abandoned = s.abandoned := rfl
@[simp] theorem beginRequest_events (s : State) : s.beginRequest.events = s.events ++ [.accept s.reqCmd] := rfl
@[simp] theorem beginRequest_inputs (s : State) : s.beginRequest.inputs = s.inputs := rfl
@[simp] theorem beginRequest_draws (s : State) : s.beginRequest.draws = s.draws + 1 := rfl

/-! `State.csAssert`. -/

@[simp] theorem csAssert_csN (s : State) : s.csAssert.csN = false := rfl
@[simp] theorem csAssert_phase (s : State) : s.csAssert.phase = s.phase := rfl
@[simp] theorem csAssert_faulted (s : State) : s.csAssert.faulted = s.faulted := rfl
@[simp] theorem csAssert_faultCode (s : State) : s.csAssert.faultCode = s.faultCode := rfl
@[simp] theorem csAssert_reqValid (s : State) : s.csAssert.reqValid = s.reqValid := rfl
@[simp] theorem csAssert_reqCmd (s : State) : s.csAssert.reqCmd = s.reqCmd := rfl
@[simp] theorem csAssert_reqData (s : State) : s.csAssert.reqData = s.reqData := rfl
@[simp] theorem csAssert_rspStatus (s : State) : s.csAssert.rspStatus = s.rspStatus := rfl
@[simp] theorem csAssert_rspLen (s : State) : s.csAssert.rspLen = s.rspLen := rfl
@[simp] theorem csAssert_rspData (s : State) : s.csAssert.rspData = s.rspData := rfl
@[simp] theorem csAssert_rspX (s : State) : s.csAssert.rspX = s.rspX := rfl
@[simp] theorem csAssert_rspY (s : State) : s.csAssert.rspY = s.rspY := rfl
@[simp] theorem csAssert_rspZ (s : State) : s.csAssert.rspZ = s.rspZ := rfl
@[simp] theorem csAssert_frame (s : State) : s.csAssert.frame = s.frame := rfl
@[simp] theorem csAssert_frameLen (s : State) : s.csAssert.frameLen = s.frameLen := rfl
@[simp] theorem csAssert_curAddr (s : State) : s.csAssert.curAddr = s.curAddr := rfl
@[simp] theorem csAssert_curSize (s : State) : s.csAssert.curSize = s.curSize := rfl
@[simp] theorem csAssert_rxbuf (s : State) : s.csAssert.rxbuf = s.rxbuf := rfl
@[simp] theorem csAssert_busOp (s : State) : s.csAssert.busOp = s.busOp := rfl
@[simp] theorem csAssert_burstCmd (s : State) : s.csAssert.burstCmd = s.burstCmd := rfl
@[simp] theorem csAssert_device (s : State) : s.csAssert.device = s.device := rfl
@[simp] theorem csAssert_abandoned (s : State) : s.csAssert.abandoned = s.abandoned := rfl
@[simp] theorem csAssert_events (s : State) : s.csAssert.events = s.events ++ [.csAssert] := rfl
@[simp] theorem csAssert_inputs (s : State) : s.csAssert.inputs = s.inputs := rfl
@[simp] theorem csAssert_draws (s : State) : s.csAssert.draws = s.draws := rfl

/-! `State.csDeassert`. -/

@[simp] theorem csDeassert_csN (s : State) : s.csDeassert.csN = true := rfl
@[simp] theorem csDeassert_phase (s : State) : s.csDeassert.phase = s.phase := rfl
@[simp] theorem csDeassert_faulted (s : State) : s.csDeassert.faulted = s.faulted := rfl
@[simp] theorem csDeassert_faultCode (s : State) : s.csDeassert.faultCode = s.faultCode := rfl
@[simp] theorem csDeassert_reqValid (s : State) : s.csDeassert.reqValid = s.reqValid := rfl
@[simp] theorem csDeassert_reqCmd (s : State) : s.csDeassert.reqCmd = s.reqCmd := rfl
@[simp] theorem csDeassert_reqData (s : State) : s.csDeassert.reqData = s.reqData := rfl
@[simp] theorem csDeassert_rspStatus (s : State) : s.csDeassert.rspStatus = s.rspStatus := rfl
@[simp] theorem csDeassert_rspLen (s : State) : s.csDeassert.rspLen = s.rspLen := rfl
@[simp] theorem csDeassert_rspData (s : State) : s.csDeassert.rspData = s.rspData := rfl
@[simp] theorem csDeassert_rspX (s : State) : s.csDeassert.rspX = s.rspX := rfl
@[simp] theorem csDeassert_rspY (s : State) : s.csDeassert.rspY = s.rspY := rfl
@[simp] theorem csDeassert_rspZ (s : State) : s.csDeassert.rspZ = s.rspZ := rfl
@[simp] theorem csDeassert_frame (s : State) : s.csDeassert.frame = s.frame := rfl
@[simp] theorem csDeassert_frameLen (s : State) : s.csDeassert.frameLen = s.frameLen := rfl
@[simp] theorem csDeassert_curAddr (s : State) : s.csDeassert.curAddr = s.curAddr := rfl
@[simp] theorem csDeassert_curSize (s : State) : s.csDeassert.curSize = s.curSize := rfl
@[simp] theorem csDeassert_rxbuf (s : State) : s.csDeassert.rxbuf = s.rxbuf := rfl
@[simp] theorem csDeassert_busOp (s : State) : s.csDeassert.busOp = s.busOp := rfl
@[simp] theorem csDeassert_burstCmd (s : State) : s.csDeassert.burstCmd = s.burstCmd := rfl
@[simp] theorem csDeassert_device (s : State) : s.csDeassert.device = s.device := rfl
@[simp] theorem csDeassert_abandoned (s : State) : s.csDeassert.abandoned = s.abandoned := rfl
@[simp] theorem csDeassert_events (s : State) : s.csDeassert.events = s.events ++ [.csDeassert] := rfl
@[simp] theorem csDeassert_inputs (s : State) : s.csDeassert.inputs = s.inputs := rfl
@[simp] theorem csDeassert_draws (s : State) : s.csDeassert.draws = s.draws := rfl

/-! `State.issue`. -/

@[simp] theorem issue_csN (s : State) (p : Phase) (op : BusOp) : (s.issue p op).csN = s.csN := rfl
@[simp] theorem issue_phase (s : State) (p : Phase) (op : BusOp) : (s.issue p op).phase = p := rfl
@[simp] theorem issue_faulted (s : State) (p : Phase) (op : BusOp) : (s.issue p op).faulted = s.faulted := rfl
@[simp] theorem issue_faultCode (s : State) (p : Phase) (op : BusOp) : (s.issue p op).faultCode = s.faultCode := rfl
@[simp] theorem issue_reqValid (s : State) (p : Phase) (op : BusOp) : (s.issue p op).reqValid = s.reqValid := rfl
@[simp] theorem issue_reqCmd (s : State) (p : Phase) (op : BusOp) : (s.issue p op).reqCmd = s.reqCmd := rfl
@[simp] theorem issue_reqData (s : State) (p : Phase) (op : BusOp) : (s.issue p op).reqData = s.reqData := rfl
@[simp] theorem issue_rspStatus (s : State) (p : Phase) (op : BusOp) : (s.issue p op).rspStatus = s.rspStatus := rfl
@[simp] theorem issue_rspLen (s : State) (p : Phase) (op : BusOp) : (s.issue p op).rspLen = s.rspLen := rfl
@[simp] theorem issue_rspData (s : State) (p : Phase) (op : BusOp) : (s.issue p op).rspData = s.rspData := rfl
@[simp] theorem issue_rspX (s : State) (p : Phase) (op : BusOp) : (s.issue p op).rspX = s.rspX := rfl
@[simp] theorem issue_rspY (s : State) (p : Phase) (op : BusOp) : (s.issue p op).rspY = s.rspY := rfl
@[simp] theorem issue_rspZ (s : State) (p : Phase) (op : BusOp) : (s.issue p op).rspZ = s.rspZ := rfl
@[simp] theorem issue_frame (s : State) (p : Phase) (op : BusOp) : (s.issue p op).frame = s.frame := rfl
@[simp] theorem issue_frameLen (s : State) (p : Phase) (op : BusOp) : (s.issue p op).frameLen = s.frameLen := rfl
@[simp] theorem issue_curAddr (s : State) (p : Phase) (op : BusOp) : (s.issue p op).curAddr = s.curAddr := rfl
@[simp] theorem issue_curSize (s : State) (p : Phase) (op : BusOp) : (s.issue p op).curSize = s.curSize := rfl
@[simp] theorem issue_rxbuf (s : State) (p : Phase) (op : BusOp) : (s.issue p op).rxbuf = s.rxbuf := rfl
@[simp] theorem issue_busOp (s : State) (p : Phase) (op : BusOp) : (s.issue p op).busOp = some op := rfl
@[simp] theorem issue_burstCmd (s : State) (p : Phase) (op : BusOp) : (s.issue p op).burstCmd = s.burstCmd := rfl
@[simp] theorem issue_device (s : State) (p : Phase) (op : BusOp) : (s.issue p op).device = s.device := rfl
@[simp] theorem issue_abandoned (s : State) (p : Phase) (op : BusOp) : (s.issue p op).abandoned = s.abandoned := rfl
@[simp] theorem issue_events (s : State) (p : Phase) (op : BusOp) :
    (s.issue p op).events = s.events ++ [.issue op] := rfl
@[simp] theorem issue_inputs (s : State) (p : Phase) (op : BusOp) : (s.issue p op).inputs = s.inputs := rfl
@[simp] theorem issue_draws (s : State) (p : Phase) (op : BusOp) : (s.issue p op).draws = s.draws := rfl

/-! `State.retire`. -/

@[simp] theorem retire_csN (s : State) (op : BusOp) (bytes : List Byte) : (s.retire op bytes).csN = s.csN := rfl
@[simp] theorem retire_phase (s : State) (op : BusOp) (bytes : List Byte) : (s.retire op bytes).phase = s.phase := rfl
@[simp] theorem retire_faulted (s : State) (op : BusOp) (bytes : List Byte) :
    (s.retire op bytes).faulted = s.faulted := rfl
@[simp] theorem retire_faultCode (s : State) (op : BusOp) (bytes : List Byte) :
    (s.retire op bytes).faultCode = s.faultCode := rfl
@[simp] theorem retire_reqValid (s : State) (op : BusOp) (bytes : List Byte) :
    (s.retire op bytes).reqValid = s.reqValid := rfl
@[simp] theorem retire_reqCmd (s : State) (op : BusOp) (bytes : List Byte) :
    (s.retire op bytes).reqCmd = s.reqCmd := rfl
@[simp] theorem retire_reqData (s : State) (op : BusOp) (bytes : List Byte) :
    (s.retire op bytes).reqData = s.reqData := rfl
@[simp] theorem retire_rspStatus (s : State) (op : BusOp) (bytes : List Byte) :
    (s.retire op bytes).rspStatus = s.rspStatus := rfl
@[simp] theorem retire_rspLen (s : State) (op : BusOp) (bytes : List Byte) :
    (s.retire op bytes).rspLen = s.rspLen := rfl
@[simp] theorem retire_rspData (s : State) (op : BusOp) (bytes : List Byte) :
    (s.retire op bytes).rspData = s.rspData := rfl
@[simp] theorem retire_rspX (s : State) (op : BusOp) (bytes : List Byte) : (s.retire op bytes).rspX = s.rspX := rfl
@[simp] theorem retire_rspY (s : State) (op : BusOp) (bytes : List Byte) : (s.retire op bytes).rspY = s.rspY := rfl
@[simp] theorem retire_rspZ (s : State) (op : BusOp) (bytes : List Byte) : (s.retire op bytes).rspZ = s.rspZ := rfl
@[simp] theorem retire_frame (s : State) (op : BusOp) (bytes : List Byte) : (s.retire op bytes).frame = s.frame := rfl
@[simp] theorem retire_frameLen (s : State) (op : BusOp) (bytes : List Byte) :
    (s.retire op bytes).frameLen = s.frameLen := rfl
@[simp] theorem retire_curAddr (s : State) (op : BusOp) (bytes : List Byte) :
    (s.retire op bytes).curAddr = s.curAddr := rfl
@[simp] theorem retire_curSize (s : State) (op : BusOp) (bytes : List Byte) :
    (s.retire op bytes).curSize = s.curSize := rfl
@[simp] theorem retire_rxbuf (s : State) (op : BusOp) (bytes : List Byte) : (s.retire op bytes).rxbuf = s.rxbuf := rfl
@[simp] theorem retire_busOp (s : State) (op : BusOp) (bytes : List Byte) : (s.retire op bytes).busOp = none := rfl
@[simp] theorem retire_burstCmd (s : State) (op : BusOp) (bytes : List Byte) :
    (s.retire op bytes).burstCmd = s.burstCmd := rfl
@[simp] theorem retire_device (s : State) (op : BusOp) (bytes : List Byte) :
    (s.retire op bytes).device = s.device := rfl
@[simp] theorem retire_abandoned (s : State) (op : BusOp) (bytes : List Byte) :
    (s.retire op bytes).abandoned = s.abandoned := rfl
@[simp] theorem retire_events (s : State) (op : BusOp) (bytes : List Byte) :
    (s.retire op bytes).events = s.events ++ [doneEvent op bytes] := rfl
@[simp] theorem retire_inputs (s : State) (op : BusOp) (bytes : List Byte) :
    (s.retire op bytes).inputs = s.inputs := rfl
@[simp] theorem retire_draws (s : State) (op : BusOp) (bytes : List Byte) : (s.retire op bytes).draws = s.draws := rfl

/-! `State.respondOk`. -/

@[simp] theorem respondOk_csN (s : State) : s.respondOk.csN = s.csN := rfl
@[simp] theorem respondOk_phase (s : State) : s.respondOk.phase = .resp := rfl
@[simp] theorem respondOk_faulted (s : State) : s.respondOk.faulted = s.faulted := rfl
@[simp] theorem respondOk_faultCode (s : State) : s.respondOk.faultCode = s.faultCode := rfl
@[simp] theorem respondOk_reqValid (s : State) : s.respondOk.reqValid = s.reqValid := rfl
@[simp] theorem respondOk_reqCmd (s : State) : s.respondOk.reqCmd = s.reqCmd := rfl
@[simp] theorem respondOk_reqData (s : State) : s.respondOk.reqData = s.reqData := rfl
@[simp] theorem respondOk_rspStatus (s : State) : s.respondOk.rspStatus = 0#2 := rfl
@[simp] theorem respondOk_rspLen (s : State) : s.respondOk.rspLen = 0#6 := rfl
@[simp] theorem respondOk_rspData (s : State) : s.respondOk.rspData = s.rspData := rfl
@[simp] theorem respondOk_rspX (s : State) : s.respondOk.rspX = s.rspX := rfl
@[simp] theorem respondOk_rspY (s : State) : s.respondOk.rspY = s.rspY := rfl
@[simp] theorem respondOk_rspZ (s : State) : s.respondOk.rspZ = s.rspZ := rfl
@[simp] theorem respondOk_frame (s : State) : s.respondOk.frame = s.frame := rfl
@[simp] theorem respondOk_frameLen (s : State) : s.respondOk.frameLen = s.frameLen := rfl
@[simp] theorem respondOk_curAddr (s : State) : s.respondOk.curAddr = s.curAddr := rfl
@[simp] theorem respondOk_curSize (s : State) : s.respondOk.curSize = s.curSize := rfl
@[simp] theorem respondOk_rxbuf (s : State) : s.respondOk.rxbuf = s.rxbuf := rfl
@[simp] theorem respondOk_busOp (s : State) : s.respondOk.busOp = s.busOp := rfl
@[simp] theorem respondOk_burstCmd (s : State) : s.respondOk.burstCmd = s.burstCmd := rfl
@[simp] theorem respondOk_device (s : State) : s.respondOk.device = s.device := rfl
@[simp] theorem respondOk_abandoned (s : State) : s.respondOk.abandoned = s.abandoned := rfl
@[simp] theorem respondOk_events (s : State) : s.respondOk.events = s.events ++ [.respOk] := rfl
@[simp] theorem respondOk_inputs (s : State) : s.respondOk.inputs = s.inputs := rfl
@[simp] theorem respondOk_draws (s : State) : s.respondOk.draws = s.draws := rfl

/-! `State.respondData`. -/

@[simp] theorem respondData_csN (s : State) (len : Size) (bytes : List Byte) :
    (s.respondData len bytes).csN = s.csN := rfl
@[simp] theorem respondData_phase (s : State) (len : Size) (bytes : List Byte) :
    (s.respondData len bytes).phase = .resp := rfl
@[simp] theorem respondData_faulted (s : State) (len : Size) (bytes : List Byte) :
    (s.respondData len bytes).faulted = s.faulted := rfl
@[simp] theorem respondData_faultCode (s : State) (len : Size) (bytes : List Byte) :
    (s.respondData len bytes).faultCode = s.faultCode := rfl
@[simp] theorem respondData_reqValid (s : State) (len : Size) (bytes : List Byte) :
    (s.respondData len bytes).reqValid = s.reqValid := rfl
@[simp] theorem respondData_reqCmd (s : State) (len : Size) (bytes : List Byte) :
    (s.respondData len bytes).reqCmd = s.reqCmd := rfl
@[simp] theorem respondData_reqData (s : State) (len : Size) (bytes : List Byte) :
    (s.respondData len bytes).reqData = s.reqData := rfl
@[simp] theorem respondData_rspStatus (s : State) (len : Size) (bytes : List Byte) :
    (s.respondData len bytes).rspStatus = 0#2 := rfl
@[simp] theorem respondData_rspLen (s : State) (len : Size) (bytes : List Byte) :
    (s.respondData len bytes).rspLen = len := rfl
@[simp] theorem respondData_rspData (s : State) (len : Size) (bytes : List Byte) :
    (s.respondData len bytes).rspData = overlay bytes s.rspData := rfl
@[simp] theorem respondData_rspX (s : State) (len : Size) (bytes : List Byte) :
    (s.respondData len bytes).rspX = s.rspX := rfl
@[simp] theorem respondData_rspY (s : State) (len : Size) (bytes : List Byte) :
    (s.respondData len bytes).rspY = s.rspY := rfl
@[simp] theorem respondData_rspZ (s : State) (len : Size) (bytes : List Byte) :
    (s.respondData len bytes).rspZ = s.rspZ := rfl
@[simp] theorem respondData_frame (s : State) (len : Size) (bytes : List Byte) :
    (s.respondData len bytes).frame = s.frame := rfl
@[simp] theorem respondData_frameLen (s : State) (len : Size) (bytes : List Byte) :
    (s.respondData len bytes).frameLen = s.frameLen := rfl
@[simp] theorem respondData_curAddr (s : State) (len : Size) (bytes : List Byte) :
    (s.respondData len bytes).curAddr = s.curAddr := rfl
@[simp] theorem respondData_curSize (s : State) (len : Size) (bytes : List Byte) :
    (s.respondData len bytes).curSize = s.curSize := rfl
@[simp] theorem respondData_rxbuf (s : State) (len : Size) (bytes : List Byte) :
    (s.respondData len bytes).rxbuf = s.rxbuf := rfl
@[simp] theorem respondData_busOp (s : State) (len : Size) (bytes : List Byte) :
    (s.respondData len bytes).busOp = s.busOp := rfl
@[simp] theorem respondData_burstCmd (s : State) (len : Size) (bytes : List Byte) :
    (s.respondData len bytes).burstCmd = s.burstCmd := rfl
@[simp] theorem respondData_device (s : State) (len : Size) (bytes : List Byte) :
    (s.respondData len bytes).device = s.device := rfl
@[simp] theorem respondData_abandoned (s : State) (len : Size) (bytes : List Byte) :
    (s.respondData len bytes).abandoned = s.abandoned := rfl
@[simp] theorem respondData_events (s : State) (len : Size) (bytes : List Byte) :
    (s.respondData len bytes).events = s.events ++ [.respData bytes] := rfl
@[simp] theorem respondData_inputs (s : State) (len : Size) (bytes : List Byte) :
    (s.respondData len bytes).inputs = s.inputs := rfl
@[simp] theorem respondData_draws (s : State) (len : Size) (bytes : List Byte) :
    (s.respondData len bytes).draws = s.draws := rfl

/-! `State.respondCount`. -/

@[simp] theorem respondCount_csN (s : State) (x : Count) : (s.respondCount x).csN = s.csN := rfl
@[simp] theorem respondCount_phase (s : State) (x : Count) : (s.respondCount x).phase = .resp := rfl
@[simp] theorem respondCount_faulted (s : State) (x : Count) : (s.respondCount x).faulted = s.faulted := rfl
@[simp] theorem respondCount_faultCode (s : State) (x : Count) : (s.respondCount x).faultCode = s.faultCode := rfl
@[simp] theorem respondCount_reqValid (s : State) (x : Count) : (s.respondCount x).reqValid = s.reqValid := rfl
@[simp] theorem respondCount_reqCmd (s : State) (x : Count) : (s.respondCount x).reqCmd = s.reqCmd := rfl
@[simp] theorem respondCount_reqData (s : State) (x : Count) : (s.respondCount x).reqData = s.reqData := rfl
@[simp] theorem respondCount_rspStatus (s : State) (x : Count) : (s.respondCount x).rspStatus = 0#2 := rfl
@[simp] theorem respondCount_rspLen (s : State) (x : Count) : (s.respondCount x).rspLen = s.rspLen := rfl
@[simp] theorem respondCount_rspData (s : State) (x : Count) : (s.respondCount x).rspData = s.rspData := rfl
@[simp] theorem respondCount_rspX (s : State) (x : Count) : (s.respondCount x).rspX = x := rfl
@[simp] theorem respondCount_rspY (s : State) (x : Count) : (s.respondCount x).rspY = s.rspY := rfl
@[simp] theorem respondCount_rspZ (s : State) (x : Count) : (s.respondCount x).rspZ = s.rspZ := rfl
@[simp] theorem respondCount_frame (s : State) (x : Count) : (s.respondCount x).frame = s.frame := rfl
@[simp] theorem respondCount_frameLen (s : State) (x : Count) : (s.respondCount x).frameLen = s.frameLen := rfl
@[simp] theorem respondCount_curAddr (s : State) (x : Count) : (s.respondCount x).curAddr = s.curAddr := rfl
@[simp] theorem respondCount_curSize (s : State) (x : Count) : (s.respondCount x).curSize = s.curSize := rfl
@[simp] theorem respondCount_rxbuf (s : State) (x : Count) : (s.respondCount x).rxbuf = s.rxbuf := rfl
@[simp] theorem respondCount_busOp (s : State) (x : Count) : (s.respondCount x).busOp = s.busOp := rfl
@[simp] theorem respondCount_burstCmd (s : State) (x : Count) : (s.respondCount x).burstCmd = s.burstCmd := rfl
@[simp] theorem respondCount_device (s : State) (x : Count) : (s.respondCount x).device = s.device := rfl
@[simp] theorem respondCount_abandoned (s : State) (x : Count) : (s.respondCount x).abandoned = s.abandoned := rfl
@[simp] theorem respondCount_events (s : State) (x : Count) :
    (s.respondCount x).events = s.events ++ [.respCount x] := rfl
@[simp] theorem respondCount_inputs (s : State) (x : Count) : (s.respondCount x).inputs = s.inputs := rfl
@[simp] theorem respondCount_draws (s : State) (x : Count) : (s.respondCount x).draws = s.draws := rfl

/-! `State.respondCounts`. -/

@[simp] theorem respondCounts_csN (s : State) (x y z : Count) : (s.respondCounts x y z).csN = s.csN := rfl
@[simp] theorem respondCounts_phase (s : State) (x y z : Count) : (s.respondCounts x y z).phase = .resp := rfl
@[simp] theorem respondCounts_faulted (s : State) (x y z : Count) : (s.respondCounts x y z).faulted = s.faulted := rfl
@[simp] theorem respondCounts_faultCode (s : State) (x y z : Count) :
    (s.respondCounts x y z).faultCode = s.faultCode := rfl
@[simp] theorem respondCounts_reqValid (s : State) (x y z : Count) :
    (s.respondCounts x y z).reqValid = s.reqValid := rfl
@[simp] theorem respondCounts_reqCmd (s : State) (x y z : Count) : (s.respondCounts x y z).reqCmd = s.reqCmd := rfl
@[simp] theorem respondCounts_reqData (s : State) (x y z : Count) : (s.respondCounts x y z).reqData = s.reqData := rfl
@[simp] theorem respondCounts_rspStatus (s : State) (x y z : Count) : (s.respondCounts x y z).rspStatus = 0#2 := rfl
@[simp] theorem respondCounts_rspLen (s : State) (x y z : Count) : (s.respondCounts x y z).rspLen = s.rspLen := rfl
@[simp] theorem respondCounts_rspData (s : State) (x y z : Count) : (s.respondCounts x y z).rspData = s.rspData := rfl
@[simp] theorem respondCounts_rspX (s : State) (x y z : Count) : (s.respondCounts x y z).rspX = x := rfl
@[simp] theorem respondCounts_rspY (s : State) (x y z : Count) : (s.respondCounts x y z).rspY = y := rfl
@[simp] theorem respondCounts_rspZ (s : State) (x y z : Count) : (s.respondCounts x y z).rspZ = z := rfl
@[simp] theorem respondCounts_frame (s : State) (x y z : Count) : (s.respondCounts x y z).frame = s.frame := rfl
@[simp] theorem respondCounts_frameLen (s : State) (x y z : Count) :
    (s.respondCounts x y z).frameLen = s.frameLen := rfl
@[simp] theorem respondCounts_curAddr (s : State) (x y z : Count) : (s.respondCounts x y z).curAddr = s.curAddr := rfl
@[simp] theorem respondCounts_curSize (s : State) (x y z : Count) : (s.respondCounts x y z).curSize = s.curSize := rfl
@[simp] theorem respondCounts_rxbuf (s : State) (x y z : Count) : (s.respondCounts x y z).rxbuf = s.rxbuf := rfl
@[simp] theorem respondCounts_busOp (s : State) (x y z : Count) : (s.respondCounts x y z).busOp = s.busOp := rfl
@[simp] theorem respondCounts_burstCmd (s : State) (x y z : Count) :
    (s.respondCounts x y z).burstCmd = s.burstCmd := rfl
@[simp] theorem respondCounts_device (s : State) (x y z : Count) : (s.respondCounts x y z).device = s.device := rfl
@[simp] theorem respondCounts_abandoned (s : State) (x y z : Count) :
    (s.respondCounts x y z).abandoned = s.abandoned := rfl
@[simp] theorem respondCounts_events (s : State) (x y z : Count) :
    (s.respondCounts x y z).events = s.events ++ [.respCounts x y z] := rfl
@[simp] theorem respondCounts_inputs (s : State) (x y z : Count) : (s.respondCounts x y z).inputs = s.inputs := rfl
@[simp] theorem respondCounts_draws (s : State) (x y z : Count) : (s.respondCounts x y z).draws = s.draws := rfl

/-! `State.takeFault`. -/

@[simp] theorem takeFault_csN (s : State) (c : FaultCode) : (s.takeFault c).csN = s.csN := rfl
@[simp] theorem takeFault_phase (s : State) (c : FaultCode) : (s.takeFault c).phase = .resp := rfl
@[simp] theorem takeFault_faulted (s : State) (c : FaultCode) : (s.takeFault c).faulted = true := rfl
@[simp] theorem takeFault_faultCode (s : State) (c : FaultCode) : (s.takeFault c).faultCode = c.bits := rfl
@[simp] theorem takeFault_reqValid (s : State) (c : FaultCode) : (s.takeFault c).reqValid = s.reqValid := rfl
@[simp] theorem takeFault_reqCmd (s : State) (c : FaultCode) : (s.takeFault c).reqCmd = s.reqCmd := rfl
@[simp] theorem takeFault_reqData (s : State) (c : FaultCode) : (s.takeFault c).reqData = s.reqData := rfl
@[simp] theorem takeFault_rspStatus (s : State) (c : FaultCode) : (s.takeFault c).rspStatus = c.bits := rfl
@[simp] theorem takeFault_rspLen (s : State) (c : FaultCode) : (s.takeFault c).rspLen = 0#6 := rfl
@[simp] theorem takeFault_rspData (s : State) (c : FaultCode) : (s.takeFault c).rspData = s.rspData := rfl
@[simp] theorem takeFault_rspX (s : State) (c : FaultCode) : (s.takeFault c).rspX = s.rspX := rfl
@[simp] theorem takeFault_rspY (s : State) (c : FaultCode) : (s.takeFault c).rspY = s.rspY := rfl
@[simp] theorem takeFault_rspZ (s : State) (c : FaultCode) : (s.takeFault c).rspZ = s.rspZ := rfl
@[simp] theorem takeFault_frame (s : State) (c : FaultCode) : (s.takeFault c).frame = s.frame := rfl
@[simp] theorem takeFault_frameLen (s : State) (c : FaultCode) : (s.takeFault c).frameLen = s.frameLen := rfl
@[simp] theorem takeFault_curAddr (s : State) (c : FaultCode) : (s.takeFault c).curAddr = s.curAddr := rfl
@[simp] theorem takeFault_curSize (s : State) (c : FaultCode) : (s.takeFault c).curSize = s.curSize := rfl
@[simp] theorem takeFault_rxbuf (s : State) (c : FaultCode) : (s.takeFault c).rxbuf = s.rxbuf := rfl
@[simp] theorem takeFault_busOp (s : State) (c : FaultCode) : (s.takeFault c).busOp = s.busOp := rfl
@[simp] theorem takeFault_burstCmd (s : State) (c : FaultCode) : (s.takeFault c).burstCmd = s.burstCmd := rfl
@[simp] theorem takeFault_device (s : State) (c : FaultCode) : (s.takeFault c).device = s.device := rfl
@[simp] theorem takeFault_abandoned (s : State) (c : FaultCode) : (s.takeFault c).abandoned = s.abandoned := rfl
@[simp] theorem takeFault_events (s : State) (c : FaultCode) :
    (s.takeFault c).events = s.events ++ [.respFault c.bits] := rfl
@[simp] theorem takeFault_inputs (s : State) (c : FaultCode) : (s.takeFault c).inputs = s.inputs := rfl
@[simp] theorem takeFault_draws (s : State) (c : FaultCode) : (s.takeFault c).draws = s.draws := rfl

/-! `State.resetBlock`. -/

@[simp] theorem resetBlock_csN (s : State) : s.resetBlock.csN = true := rfl
@[simp] theorem resetBlock_phase (s : State) : s.resetBlock.phase = .idle := rfl
@[simp] theorem resetBlock_faulted (s : State) : s.resetBlock.faulted = false := rfl
@[simp] theorem resetBlock_faultCode (s : State) : s.resetBlock.faultCode = 0#2 := rfl
@[simp] theorem resetBlock_reqValid (s : State) : s.resetBlock.reqValid = s.reqValid := rfl
@[simp] theorem resetBlock_reqCmd (s : State) : s.resetBlock.reqCmd = s.reqCmd := rfl
@[simp] theorem resetBlock_reqData (s : State) : s.resetBlock.reqData = s.reqData := rfl
@[simp] theorem resetBlock_rspStatus (s : State) : s.resetBlock.rspStatus = Config.rspStatus s.draws := rfl
@[simp] theorem resetBlock_rspLen (s : State) : s.resetBlock.rspLen = Config.rspLen s.draws := rfl
@[simp] theorem resetBlock_rspData (s : State) : s.resetBlock.rspData = drawBytes 63 (Config.rspByte s.draws) := rfl
@[simp] theorem resetBlock_rspX (s : State) : s.resetBlock.rspX = Config.rspX s.draws := rfl
@[simp] theorem resetBlock_rspY (s : State) : s.resetBlock.rspY = Config.rspY s.draws := rfl
@[simp] theorem resetBlock_rspZ (s : State) : s.resetBlock.rspZ = Config.rspZ s.draws := rfl
@[simp] theorem resetBlock_frame (s : State) : s.resetBlock.frame = drawBytes 32 (Config.frameByte s.draws) := rfl
@[simp] theorem resetBlock_frameLen (s : State) : s.resetBlock.frameLen = Config.frameLen s.draws := rfl
@[simp] theorem resetBlock_curAddr (s : State) : s.resetBlock.curAddr = Config.curAddr s.draws := rfl
@[simp] theorem resetBlock_curSize (s : State) : s.resetBlock.curSize = Config.curSize s.draws := rfl
@[simp] theorem resetBlock_rxbuf (s : State) : s.resetBlock.rxbuf = drawBytes 63 (Config.rxByte s.draws) := rfl
@[simp] theorem resetBlock_busOp (s : State) : s.resetBlock.busOp = none := rfl
@[simp] theorem resetBlock_burstCmd (s : State) : s.resetBlock.burstCmd = s.burstCmd := rfl
@[simp] theorem resetBlock_device (s : State) : s.resetBlock.device = [] := rfl
@[simp] theorem resetBlock_abandoned (s : State) : s.resetBlock.abandoned = s.abandoned + abandonedNow s := rfl
@[simp] theorem resetBlock_events (s : State) : s.resetBlock.events = s.events ++ resetEvents s := rfl
@[simp] theorem resetBlock_inputs (s : State) : s.resetBlock.inputs = s.inputs := rfl
@[simp] theorem resetBlock_draws (s : State) : s.resetBlock.draws = s.draws + 1 := rfl

end Sys2Proof.Laws
end

