-- ==== Sys2Proof/Laws/Step.lean ====
section
/-! SUPPORT. What each shared operation and the step can do, said once: the inversion lemmas that proofs cite instead
of unfolding. -/

namespace Sys2Proof.Laws

open Sys2Proof.Machine

/-! The operations that are made of others. -/

theorem startTransaction_eq (s : State) (p : Phase) (op : BusOp) :
    s.startTransaction p op =
      { s with csN := false, phase := p, busOp := some op, events := s.events ++ [.csAssert, .issue op] } := by
  simp [State.startTransaction, State.issue, State.csAssert, State.record]

theorem startWrite_eq (addr : DevAddr) (size : Size) (s : State) :
    startWrite addr size s =
      { s with
        frame := overlay (writeFrame addr size s) s.frame
        frameLen := size + 1#6
        csN := false
        phase := .wFrame
        busOp := some (.tx (writeFrame addr size s))
        events := s.events ++ [.csAssert, .issue (.tx (writeFrame addr size s))] } := by
  simp [startWrite, startTransaction_eq]

theorem startRead_eq (addr : DevAddr) (size : Size) (s : State) :
    startRead addr size s =
      { s with
        curAddr := addr
        curSize := size
        csN := false
        phase := .rAddr
        busOp := some (.tx [addrByte addr])
        events := s.events ++ [.csAssert, .issue (.tx [addrByte addr])] } := by
  simp [startRead, startTransaction_eq]

theorem startBurst_eq (s : State) :
    startBurst s =
      { s with
        csN := false
        phase := .bCmd
        busOp := some (.tx [s.burstCmd])
        events := s.events ++ [.csAssert, .issue (.tx [s.burstCmd])] } := by
  simp [startBurst, startTransaction_eq]

theorem endTransaction_eq (s : State) (op : BusOp) (bytes : List Byte) :
    s.endTransaction op bytes =
      { s with csN := true, busOp := none, events := s.events ++ [doneEvent op bytes, .csDeassert] } := by
  simp [State.endTransaction, State.retire, State.csDeassert, State.record]

/-- Committing a frame touches nothing but what is known of the device. -/
theorem commitFrame_eq (s : State) : s.commitFrame = { s with device := s.commitFrame.device } := by
  unfold State.commitFrame
  split <;> rfl

/-- A commit keeps the device's canonical form. -/
theorem commitFrame_wf (s : State) (h : s.device.wf = true) : s.commitFrame.device.wf = true := by
  unfold State.commitFrame
  split
  · exact h
  · exact commit_wf _ _ h

@[simp] theorem resetEvents_setInputs (s : State) (rest : List Input) :
    resetEvents (s.setInputs rest) = resetEvents s := rfl

@[simp] theorem abandonedNow_setInputs (s : State) (rest : List Input) :
    abandonedNow (s.setInputs rest) = abandonedNow s := rfl

/-- The events of a reset: its mark, and the deassertion exactly when the window was open (R131). -/
theorem resetEvents_cases (s : State) :
    (s.csN = true ∧ resetEvents s = [.reset]) ∨ (s.csN = false ∧ resetEvents s = [.reset, .csDeassert]) := by
  cases h : s.csN <;> simp [resetEvents, h]

theorem onTake_resp (s : State) (h : s.phase = .resp) :
    onTake s = { s.forget with phase := .idle }.record [.take] := by
  simp [onTake, h]

/-- A take without a response presented does nothing. -/
theorem onTake_other (s : State) (h : s.phase ≠ .resp) : onTake s = s := by
  unfold onTake
  split
  · exact absurd ‹_› h
  · rfl

/-! Acceptance. -/

/-- The frame a WRITE_REG leaves in the buffer is the frame it transmits (R29, R83). -/
theorem sentFrame_startWrite (addr : DevAddr) (size : Size) (s : State) (h : size.toNat < 32) :
    sentFrame (startWrite addr size s) = writeFrame addr size s := by
  have hl : (size + 1#6).toNat = (writeFrame addr size s).length := by
    simp [BitVec.toNat_add]
    omega
  simp only [startWrite_eq, sentFrame, hl]
  exact frontBytes_overlay _ _ (by simp; omega)

/-- A request either raises its fault or runs, never both (R70). -/
theorem faultOr_next {i : Instr} {s t : State} {run : State → State} (h : faultOr i s run = .next t) :
    (∃ c, faultOf i = some c ∧ t = s.takeFault c) ∨ (faultOf i = none ∧ t = run s) := by
  unfold faultOr at h
  split at h
  · exact .inl ⟨_, ‹_›, by cases h; rfl⟩
  · exact .inr ⟨‹_›, by cases h; rfl⟩

theorem faultOr_fault {i : Instr} {s : State} {run : State → State} {c : FaultCode} (h : faultOf i = some c) :
    faultOr i s run = .next (s.takeFault c) := by
  simp [faultOr, h]

theorem faultOr_run {i : Instr} {s : State} {run : State → State} (h : faultOf i = none) :
    faultOr i s run = .next (run s) := by
  simp [faultOr, h]

theorem exec_writeReg (a : DevAddr) (n : Size) (s : State) :
    exec (.writeReg a n) s = faultOr (.writeReg a n) s (startWrite a n) := rfl

theorem exec_readReg (a : DevAddr) (n : Size) (s : State) : exec (.readReg a n) s = .next (startRead a n s) := rfl

theorem exec_readBurst (a : DevAddr) (n : Size) (s : State) :
    exec (.readBurst a n) s = faultOr (.readBurst a n) s startBurst := rfl

theorem exec_decode24 (a : DevAddr) (n : Size) (s : State) :
    exec (.decode24 a n) s = faultOr (.decode24 a n) s fun s => s.respondCount (laneX s) := rfl

theorem exec_decodeWindow (a : DevAddr) (n : Size) (s : State) :
    exec (.decodeWindow a n) s =
      faultOr (.decodeWindow a n) s fun s => s.respondCounts (laneX s) (laneY s) (laneZ s) := rfl

/-- Everything the acceptance action of a request can do (R93). -/
theorem exec_cases {i : Instr} {s t : State} (h : exec i s = .next t) :
    (∃ c, faultOf i = some c ∧ t = s.takeFault c) ∨
    (∃ a n, i = .writeReg a n ∧ n.toNat < 32 ∧ t = startWrite a n s) ∨
    (∃ a n, i = .readReg a n ∧ t = startRead a n s) ∨
    (i = .readBurst 0#7 0#6 ∧ t = startBurst s) ∨
    (i = .decode24 0#7 0#6 ∧ t = s.respondCount (laneX s)) ∨
    (i = .decodeWindow 0#7 0#6 ∧ t = s.respondCounts (laneX s) (laneY s) (laneZ s)) := by
  cases i with
  | writeReg a n =>
    rw [exec_writeReg] at h
    rcases faultOr_next h with h | ⟨h₁, h₂⟩
    · exact .inl h
    · refine .inr (.inl ⟨a, n, rfl, ?_, h₂⟩)
      simpa [faultOf, Config.maxFrame] using h₁
  | readReg a n =>
    rw [exec_readReg] at h
    exact .inr (.inr (.inl ⟨a, n, rfl, by cases h; rfl⟩))
  | readBurst a n =>
    rw [exec_readBurst] at h
    rcases faultOr_next h with h | ⟨h₁, h₂⟩
    · exact .inl h
    · obtain ⟨rfl, rfl⟩ : a = 0#7 ∧ n = 0#6 := by simpa [faultOf, reservedFieldFault] using h₁
      exact .inr (.inr (.inr (.inl ⟨rfl, h₂⟩)))
  | decode24 a n =>
    rw [exec_decode24] at h
    rcases faultOr_next h with h | ⟨h₁, h₂⟩
    · exact .inl h
    · obtain ⟨rfl, rfl⟩ : a = 0#7 ∧ n = 0#6 := by simpa [faultOf, reservedFieldFault] using h₁
      exact .inr (.inr (.inr (.inr (.inl ⟨rfl, h₂⟩))))
  | decodeWindow a n =>
    rw [exec_decodeWindow] at h
    rcases faultOr_next h with h | ⟨h₁, h₂⟩
    · exact .inl h
    · obtain ⟨rfl, rfl⟩ : a = 0#7 ∧ n = 0#6 := by simpa [faultOf, reservedFieldFault] using h₁
      exact .inr (.inr (.inr (.inr (.inr ⟨rfl, h₂⟩))))
  | reservedOp5 r => exact .inl ⟨.illegalOp, rfl, by cases h; rfl⟩
  | reservedOp6 r => exact .inl ⟨.illegalOp, rfl, by cases h; rfl⟩
  | reservedOp7 r => exact .inl ⟨.illegalOp, rfl, by cases h; rfl⟩

/-- A request whose word raises a fault takes it, in any state. -/
theorem exec_fault {i : Instr} {s : State} {c : FaultCode} (h : faultOf i = some c) :
    exec i s = .next (s.takeFault c) := by
  cases i with
  | writeReg a n => rw [exec_writeReg, faultOr_fault h]
  | readReg a n => simp [faultOf] at h
  | readBurst a n => rw [exec_readBurst, faultOr_fault h]
  | decode24 a n => rw [exec_decode24, faultOr_fault h]
  | decodeWindow a n => rw [exec_decodeWindow, faultOr_fault h]
  | reservedOp5 r => obtain rfl : FaultCode.illegalOp = c := by simpa [faultOf] using h
                     rfl
  | reservedOp6 r => obtain rfl : FaultCode.illegalOp = c := by simpa [faultOf] using h
                     rfl
  | reservedOp7 r => obtain rfl : FaultCode.illegalOp = c := by simpa [faultOf] using h
                     rfl

/-! Completions. -/

/-- Everything a completion can do (R93). -/
theorem onDone_cases {d : List Byte} {s t : State} (h : onDone d s = .next t) :
    ∃ op, s.busOp = some op ∧ d.length = replyLength op ∧
      ((s.phase = .wFrame ∧ t = writeDone op d s) ∨ (s.phase = .rAddr ∧ t = readAddrDone op d s) ∨
       (s.phase = .rData ∧ t = readDataDone op d s) ∨ (s.phase = .bCmd ∧ t = burstCmdDone op d s) ∨
       (s.phase = .bData ∧ t = burstDataDone op d s)) := by
  unfold onDone at h
  split at h
  · cases h
  · rename_i op hop
    split at h
    · cases h
    · rename_i hlen
      refine ⟨op, hop, not_not.mp hlen, ?_⟩
      split at h <;> cases h <;> simp_all

/-! A completion of the right length for the outstanding operation, phase by phase. -/

theorem onDone_wFrame {s : State} {d : List Byte} {op : BusOp} (h : s.busOp = some op)
    (hl : d.length = replyLength op) (hp : s.phase = .wFrame) : onDone d s = .next (writeDone op d s) := by
  simp [onDone, h, hl, hp]

theorem onDone_rAddr {s : State} {d : List Byte} {op : BusOp} (h : s.busOp = some op)
    (hl : d.length = replyLength op) (hp : s.phase = .rAddr) : onDone d s = .next (readAddrDone op d s) := by
  simp [onDone, h, hl, hp]

theorem onDone_rData {s : State} {d : List Byte} {op : BusOp} (h : s.busOp = some op)
    (hl : d.length = replyLength op) (hp : s.phase = .rData) : onDone d s = .next (readDataDone op d s) := by
  simp [onDone, h, hl, hp]

theorem onDone_bCmd {s : State} {d : List Byte} {op : BusOp} (h : s.busOp = some op)
    (hl : d.length = replyLength op) (hp : s.phase = .bCmd) : onDone d s = .next (burstCmdDone op d s) := by
  simp [onDone, h, hl, hp]

theorem onDone_bData {s : State} {d : List Byte} {op : BusOp} (h : s.busOp = some op)
    (hl : d.length = replyLength op) (hp : s.phase = .bData) : onDone d s = .next (burstDataDone op d s) := by
  simp [onDone, h, hl, hp]

/-- In a phase that waits for no operation a completion is refused. -/
theorem onDone_idle_or_resp {s : State} {d : List Byte} {op : BusOp} (h : s.busOp = some op)
    (hl : d.length = replyLength op) (hp : s.phase = .idle ∨ s.phase = .resp) :
    onDone d s = .refused .completionWithoutOperation := by
  rcases hp with hp | hp <;> simp [onDone, h, hl, hp]

theorem writeDone_eq (op : BusOp) (d : List Byte) (s : State) :
    writeDone op d s =
      { s with
        csN := true
        busOp := none
        device := (s.endTransaction op d).commitFrame.device
        rspStatus := 0#2
        rspLen := 0#6
        phase := .resp
        events := s.events ++ [doneEvent op d, .csDeassert, .respOk] } := by
  unfold writeDone
  rw [commitFrame_eq]
  simp [State.respondOk, State.record, endTransaction_eq]

theorem readAddrDone_eq (op : BusOp) (d : List Byte) (s : State) (h : s.curSize ≠ 0#6) :
    readAddrDone op d s =
      { s with
        phase := .rData
        busOp := some (.rx s.curSize.toNat)
        events := s.events ++ [doneEvent op d, .issue (.rx s.curSize.toNat)] } := by
  simp [readAddrDone, h, State.retire, State.issue, State.record]

theorem readAddrDone_zero_eq (op : BusOp) (d : List Byte) (s : State) (h : s.curSize = 0#6) :
    readAddrDone op d s =
      { s with
        csN := true
        busOp := none
        rspStatus := 0#2
        rspLen := 0#6
        rspData := overlay [] s.rspData
        phase := .resp
        events := s.events ++ [doneEvent op d, .csDeassert, .respData []] } := by
  simp [readAddrDone, h, endTransaction_eq, State.respondData, State.record]

theorem readDataDone_eq (op : BusOp) (d : List Byte) (s : State) :
    readDataDone op d s =
      { s with
        rxbuf := overlay d s.rxbuf
        csN := true
        busOp := none
        rspStatus := 0#2
        rspLen := s.curSize
        rspData := overlay d s.rspData
        phase := .resp
        events := s.events ++ [doneEvent op d, .csDeassert, .respData d] } := by
  simp [readDataDone, endTransaction_eq, State.respondData, State.record]

theorem burstCmdDone_eq (op : BusOp) (d : List Byte) (s : State) :
    burstCmdDone op d s =
      { s with
        phase := .bData
        busOp := some (.xfer (filler s))
        draws := s.draws + 1
        events := s.events ++ [doneEvent op d, .issue (.xfer (filler s))] } := by
  simp [burstCmdDone, State.retire, State.issue, State.record]

theorem burstDataDone_eq (op : BusOp) (d : List Byte) (s : State) :
    burstDataDone op d s =
      { s with
        rxbuf := overlay d s.rxbuf
        csN := true
        busOp := none
        rspStatus := 0#2
        rspLen := 9#6
        rspData := overlay d s.rspData
        phase := .resp
        events := s.events ++ [doneEvent op d, .csDeassert, .respData d] } := by
  simp [burstDataDone, endTransaction_eq, State.respondData, State.record]

/-! The step. -/

theorem nextMove_accept {s : State} (hr : s.reqReady = true) (hv : s.reqValid = true)
    (hi : s.inputs.head? ≠ some .reset) : nextMove s = .accept := by
  unfold nextMove
  split
  · simp_all
  · simp [hr, hv]
  · simp [hr, hv]

theorem nextMove_input {s : State} {i : Input} {rest : List Input} (h : s.inputs = i :: rest)
    (hw : i = .reset ∨ s.reqReady = false ∨ s.reqValid = false) : nextMove s = .input i rest := by
  unfold nextMove
  split
  · simp_all
  · simp_all
  · rename_i hne heq
    rw [h] at heq
    cases heq
    rcases hw with rfl | hw | hw
    · simp_all
    · simp [hw]
    · simp [hw]

theorem nextMove_stuck {s : State} (h : s.inputs = []) (hw : s.reqReady = false ∨ s.reqValid = false) :
    nextMove s = .stuck := by
  unfold nextMove
  split
  · simp_all
  · rcases hw with hw | hw <;> simp [hw]
  · simp_all

/-- Everything a step that answers a next state can be: an acceptance, or one input from outside (R93). -/
theorem step_cases {s t : State} (h : step s = .next t) :
    (s.reqReady = true ∧ s.reqValid = true ∧ s.inputs.head? ≠ some .reset ∧
      exec (decode s.reqCmd) s.beginRequest = .next t) ∨
    (∃ i rest, s.inputs = i :: rest ∧ (i = .reset ∨ s.reqReady = false ∨ s.reqValid = false) ∧
      onInput i (s.setInputs rest) = .next t) := by
  unfold step at h
  split at h
  · rename_i hm
    left
    unfold nextMove at hm
    split at hm
    · cases hm
    · split at hm <;> simp_all
    · split at hm <;> simp_all
  · rename_i i rest hm
    right
    unfold nextMove at hm
    split at hm
    · cases hm
      exact ⟨_, _, ‹_›, .inl rfl, h⟩
    · split at hm <;> cases hm
    · split at hm
      · cases hm
      · cases hm
        refine ⟨_, _, ‹_›, .inr ?_, h⟩
        rename_i hc
        cases hr : s.reqReady <;> simp_all
  · cases h

/-- An acceptance is the acceptance action of the decoded request (R80). -/
theorem step_accept {s : State} (hr : s.reqReady = true) (hv : s.reqValid = true)
    (hi : s.inputs.head? ≠ some .reset) : step s = exec (decode s.reqCmd) s.beginRequest := by
  simp [step, nextMove_accept hr hv hi]

theorem step_input {s : State} {i : Input} {rest : List Input} (h : s.inputs = i :: rest)
    (hw : i = .reset ∨ s.reqReady = false ∨ s.reqValid = false) :
    step s = onInput i (s.setInputs rest) := by
  simp [step, nextMove_input h hw]

theorem reqReady_false_of_phase {s : State} (h : s.phase ≠ .idle) : s.reqReady = false := by
  simp [State.reqReady, h]

/-- A block that is not idle takes what comes next from outside. -/
theorem step_busy {s : State} {i : Input} {rest : List Input} (h : s.inputs = i :: rest) (hp : s.phase ≠ .idle) :
    step s = onInput i (s.setInputs rest) :=
  step_input h (.inr (.inl (reqReady_false_of_phase hp)))

theorem step_stuck {s : State} (h : s.inputs = []) (hw : s.reqReady = false ∨ s.reqValid = false) :
    step s = .fault (stuckReason s) := by
  simp [step, nextMove_stuck h hw]

end Sys2Proof.Laws
end

