-- ==== Sys2Proof/Laws/Run.lean ====
section
/-! SUPPORT. Runs of several steps: one step at a time, the induction over a run, and that a run only ever uses up what
comes from outside. -/

namespace Sys2Proof.Laws

open Sys2Proof.Machine
open Sys2Proof.Safety

theorem runSteps_zero (s : State) : runSteps 0 s = .next s := rfl

theorem runSteps_succ {s t : State} (k : Nat) (h : step s = .next t) : runSteps (k + 1) s = runSteps k t := by
  have hc : Sys2Proof.core.step s = .next t := h
  simp only [runSteps, Host.Core.run]
  rw [hc]

/-- A run that answers a next state after `k + 1` steps takes one step and then runs on. -/
theorem runSteps_succ_cases {k : Nat} {s t : State} (h : runSteps (k + 1) s = .next t) :
    ∃ u, step s = .next u ∧ runSteps k u = .next t := by
  simp only [runSteps, Host.Core.run] at h
  split at h
  · rename_i u hu
    exact ⟨u, hu, h⟩
  · cases h
  · cases h

/-- What every step keeps holds after any run. -/
theorem runSteps_keeps {P : State → Prop} (hstep : ∀ s t, P s → step s = .next t → P t) {k : Nat} {s t : State}
    (hs : P s) (h : runSteps k s = .next t) : P t := by
  induction k generalizing s with
  | zero => cases h; exact hs
  | succ k ih =>
    obtain ⟨u, hu, h⟩ := runSteps_succ_cases h
    exact ih (hstep s u hs hu) h

/-- A step uses up at most the head of what is to come from outside, and adds nothing. -/
theorem step_inputs {s t : State} (h : step s = .next t) :
    t.inputs = s.inputs ∨ ∃ i, s.inputs = i :: t.inputs := by
  rcases step_cases h with ⟨-, -, -, h⟩ | ⟨i, rest, hi, -, h⟩
  · left
    rcases exec_cases h with ⟨c, -, rfl⟩ | ⟨a, n, -, -, rfl⟩ | ⟨a, n, -, rfl⟩ | ⟨-, rfl⟩ | ⟨-, rfl⟩ | ⟨-, rfl⟩
    · simp
    · simp [startWrite_eq]
    · simp [startRead_eq]
    · simp [startBurst_eq]
    · simp
    · simp
  · right
    refine ⟨i, ?_⟩
    suffices ht : t.inputs = rest by rw [hi, ht]
    cases i with
    | present c d => cases h; rfl
    | withdraw => cases h; rfl
    | take =>
      cases h
      by_cases hp : (s.setInputs rest).phase = .resp
      · simp [onTake_resp _ hp]
      · simp [onTake_other _ hp]
    | done d =>
      obtain ⟨op, -, -, h⟩ := onDone_cases h
      rcases h with ⟨-, rfl⟩ | ⟨-, rfl⟩ | ⟨-, rfl⟩ | ⟨-, rfl⟩ | ⟨-, rfl⟩
      · simp [writeDone_eq]
      · by_cases hc : (s.setInputs rest).curSize = 0#6
        · simp [readAddrDone_zero_eq _ _ _ hc]
        · simp [readAddrDone_eq _ _ _ hc]
      · simp [readDataDone_eq]
      · simp [burstCmdDone_eq]
      · simp [burstDataDone_eq]
    | lateDone =>
      simp only [onInput, onLateDone] at h
      split at h <;> cases h
      rfl
    | reset => cases h; simp
    | devicePowerLoss => cases h; rfl

/-- What is still to come was to come before the step. -/
theorem step_inputs_mem {s t : State} (h : step s = .next t) {i : Input} (hi : i ∈ t.inputs) : i ∈ s.inputs := by
  rcases step_inputs h with he | ⟨j, he⟩
  · rwa [← he]
  · rw [he]
    exact List.mem_cons_of_mem _ hi

end Sys2Proof.Laws
end

