-- ==== Sys2Proof/Tests/Slice0.lean ====
section
/-! SUPPORT. Small tests: the well-formedness check, decoding of words written out bit by bit, one step of each request
and of each row of the step relation, with the results of spec/95_test_vectors.md; and for every statement that has
hypotheses a state and operands that meet them. -/

namespace Sys2Proof.Tests

open Sys2Proof.Machine Sys2Proof.Safety

/-! ## Helpers -/

/-- What a test looks at in the next state, if there is one. -/
def look {α : Type} (o : Host.Outcome State Fault Refusal) (f : State → α) : Option α :=
  match o with
  | .next t => some (f t)
  | .fault _ => none
  | .refused _ => none

/-- An idle block with operand bytes on its port and the burst command of the example instance (D28). -/
def idleState (bytes : List Byte) : State :=
  { State.reset with reqData := overlay bytes (Vector.replicate 63 0#8), burstCmd := 0xA4#8 }

/-- The same with a request presented. -/
def askState (cmd : Cmd) (bytes : List Byte) (inputs : List Input) : State :=
  { idleState bytes with reqValid := true, reqCmd := cmd, inputs := inputs }

/-- A block with an operation outstanding. -/
def busyState (phase : Phase) (op : BusOp) (inputs : List Input) : State :=
  { idleState [] with csN := false, phase := phase, busOp := some op, inputs := inputs }

/-- A block whose write frame is on the bus. -/
def writingState (bytes : List Byte) (inputs : List Input) : State :=
  { busyState .wFrame (.tx bytes) inputs with
    frame := overlay bytes (Vector.replicate 32 0#8), frameLen := BitVec.ofNat 6 bytes.length }

/-- A block that has faulted and whose response has been taken. -/
def faultedState (code : BitVec 2) (inputs : List Input) : State :=
  { idleState [] with faulted := true, faultCode := code, inputs := inputs }

/-- A block that presents a response. -/
def respState (inputs : List Input) : State := { idleState [] with phase := .resp, inputs := inputs }

/-! ## Well-formedness (R68): an ill-formed request for each check, and the largest well-formed one. -/

theorem test_wellFormed_refuses_long_write : (Instr.writeReg 1#7 32#6).wellFormed = false := by decide
theorem test_wellFormed_accepts_largest_write : (Instr.writeReg 0x7F#7 31#6).wellFormed = true := by decide
theorem test_wellFormed_accepts_largest_read : (Instr.readReg 0x7F#7 63#6).wellFormed = true := by decide
theorem test_wellFormed_refuses_burst_addr : (Instr.readBurst 1#7 0#6).wellFormed = false := by decide
theorem test_wellFormed_refuses_burst_size : (Instr.readBurst 0#7 1#6).wellFormed = false := by decide
theorem test_wellFormed_refuses_decode24_addr : (Instr.decode24 0x7F#7 0#6).wellFormed = false := by decide
theorem test_wellFormed_refuses_decode24_size : (Instr.decode24 0#7 63#6).wellFormed = false := by decide
theorem test_wellFormed_refuses_window_addr : (Instr.decodeWindow 0x40#7 0#6).wellFormed = false := by decide
theorem test_wellFormed_refuses_window_size : (Instr.decodeWindow 0#7 63#6).wellFormed = false := by decide
theorem test_wellFormed_refuses_op5 : (Instr.reservedOp5 0#13).wellFormed = false := by decide
theorem test_wellFormed_refuses_op6 : (Instr.reservedOp6 0#13).wellFormed = false := by decide
theorem test_wellFormed_refuses_op7 : (Instr.reservedOp7 0x1FFF#13).wellFormed = false := by decide

/-! ## Decoding: words written from R66 as SIZE, ADDR, OP; the readings are those of 95_test_vectors.md 2.2. -/

theorem test_decode_write : decode 0b000110_0000100_000#16 = .writeReg 0x04#7 6#6 := by decide
theorem test_decode_write_largest : decode 0b011111_1111111_000#16 = .writeReg 0x7F#7 31#6 := by decide
theorem test_decode_read : decode 0b000001_0110100_001#16 = .readReg 0x34#7 1#6 := by decide
theorem test_decode_read_largest : decode 0b111111_1111111_001#16 = .readReg 0x7F#7 63#6 := by decide
theorem test_decode_burst : decode 0b000000_0000000_010#16 = .readBurst 0#7 0#6 := by decide
theorem test_decode_burst_addr : decode 0b000000_0000001_010#16 = .readBurst 1#7 0#6 := by decide
theorem test_decode_decode24 : decode 0b000000_0000000_011#16 = .decode24 0#7 0#6 := by decide
theorem test_decode_decode24_addr : decode 0b000000_1111111_011#16 = .decode24 0x7F#7 0#6 := by decide
theorem test_decode_window : decode 0b000000_0000000_100#16 = .decodeWindow 0#7 0#6 := by decide
theorem test_decode_window_size : decode 0b111111_0000000_100#16 = .decodeWindow 0#7 63#6 := by decide
theorem test_decode_op5 : decode 0b000000_0000000_101#16 = .reservedOp5 0#13 := by decide
theorem test_decode_op6 : decode 0b000000_0000000_110#16 = .reservedOp6 0#13 := by decide
theorem test_decode_op7 : decode 0b111111_1111111_111#16 = .reservedOp7 0x1FFF#13 := by decide
theorem test_decodeTableWord_read : decodeTableWord 16 0x05A1 = some (.readReg 0x34#7 1#6) := by decide
theorem test_decodeTableWord_refuses_wide : decodeTableWord 24 0x10002 = none := by decide

/-- The faults of 95_test_vectors.md 2.2, with the largest legal write beside them. -/
theorem test_faults :
    [0x7FF8#16, 0x8008#16, 0xFFF8#16, 0xFFF9#16, 0x000A#16, 0x0402#16, 0x03FB#16, 0xFC04#16, 0x0005#16,
      0xFFFF#16].map (fun w => faultOf (decode w)) =
    [none, some .frameTooLong, some .frameTooLong, none, some .reservedField, some .reservedField,
      some .reservedField, some .reservedField, some .illegalOp, some .illegalOp] := by decide

/-! ## The address byte (95_test_vectors.md 2.1) and the decoder (2.6) -/

theorem test_addrByte :
    [0x01#7, 0x34#7, 0x3F#7, 0x40#7, 0x7F#7].map addrByte = [0x02#8, 0x68#8, 0x7E#8, 0x80#8, 0xFE#8] := by decide

theorem test_decodeAxis :
    [decodeAxis 0x12#8 0x34#8 0x56#8, decodeAxis 0x7F#8 0xFF#8 0xFF#8, decodeAxis 0x80#8 0x00#8 0x00#8,
      decodeAxis 0xAB#8 0xCD#8 0xEF#8] =
    [0x00123456#32, 0x007FFFFF#32, 0xFF800000#32, 0xFFABCDEF#32] := by decide

/-! ## One step of each request -/

/-- `WREG 0x01, [0x79]` (2.3). -/
theorem test_write_sends_frame :
    look (step (askState 0x0408#16 [0x79#8] [])) (fun t => (t.busOp, t.csN)) =
      some (some (.tx [0x02#8, 0x79#8]), false) := by decide

/-- Command 0x8008 (2.3): `STATUS = 0x0F`, chip-select stays 1. -/
theorem test_long_write_faults :
    look (step (askState 0x8008#16 [] [])) (fun t => (t.status, t.rspStatus, t.csN)) =
      some (0x0F#8, 3#2, true) := by decide

/-- `RREG 0x34, 1` (2.4). -/
theorem test_read_sends_address :
    look (step (askState 0x05A1#16 [] [])) (fun t => (t.busOp, t.phase)) = some (some (.tx [0x68#8]), .rAddr) := by
  decide

/-- The stuck state of P4: `STATUS = 0x01`. -/
theorem test_read_is_busy :
    look (step (askState 0x05B1#16 [] [])) (fun t => (t.status, t.csN)) = some (0x01#8, false) := by decide

/-- `RBURST` with `BURST_CMD = 0xA4` (P2 request 4). -/
theorem test_burst_sends_command :
    look (step (askState 0x0002#16 [] [])) (fun t => (t.busOp, t.phase)) = some (some (.tx [0xA4#8]), .bCmd) := by
  decide

/-- Command 0x000A (2.5). -/
theorem test_burst_reserved_field :
    look (step (askState 0x000A#16 [] [])) (fun t => (t.rspStatus, t.busOp)) = some (2#2, none) := by decide

/-- `DEC24 [0xAB, 0xCD, 0xEF]` (P3 request 4). -/
theorem test_decode24_sign :
    look (step (askState 0x0003#16 [0xAB#8, 0xCD#8, 0xEF#8] [])) (fun t => (t.rspX, t.rspStatus)) =
      some (0xFFABCDEF#32, 0#2) := by decide

/-- Command 0x03FB (2.2). -/
theorem test_decode24_reserved_field :
    look (step (askState 0x03FB#16 [] [])) (fun t => (t.faultCode, t.phase)) = some (2#2, .resp) := by decide

/-- `DECWIN [00,10,00, FF,F0,00, 00,00,01]` (2.7): `(4096, -4096, 1)`. -/
theorem test_window_scenario :
    look (step (askState 0x0004#16 [0x00#8, 0x10#8, 0x00#8, 0xFF#8, 0xF0#8, 0x00#8, 0x00#8, 0x00#8, 0x01#8] []))
      (fun t => (t.rspX.toInt, t.rspY.toInt, t.rspZ.toInt)) = some (4096, -4096, 1) := by decide

/-- `DECWIN [12,34,56, AB,CD,EF, 80,FF,FF]` (2.7). -/
theorem test_window_lanes :
    look (step (askState 0x0004#16 [0x12#8, 0x34#8, 0x56#8, 0xAB#8, 0xCD#8, 0xEF#8, 0x80#8, 0xFF#8, 0xFF#8] []))
      (fun t => (t.rspX.toInt, t.rspY.toInt, t.rspZ.toInt)) = some (1193046, -5517841, -8323073) := by decide

/-- 0x0005, 0x0006 and 0xFFFF (2.2, 2.8). -/
theorem test_op5_faults :
    look (step (askState 0x0005#16 [] [])) (fun t => (t.faulted, t.faultCode, t.csN)) = some (true, 1#2, true) := by
  decide
theorem test_op6_faults :
    look (step (askState 0x0006#16 [] [])) (fun t => (t.rspStatus, t.phase)) = some (1#2, .resp) := by decide
theorem test_op7_faults :
    look (step (askState 0xFFFF#16 [] [])) (fun t => (t.rspStatus, t.events)) =
      some (1#2, [.accept 0xFFFF#16, .respFault 1#2]) := by decide

/-- The host's word on the port of the reset state is the request the next step runs. -/
theorem test_withFetchWord :
    look (step (State.reset.withFetchWord 16 0x05A1)) (fun t => (t.curAddr, t.curSize)) =
      some (0x34#7, 1#6) := by decide

/-! ## The other rows of the step relation (R93) -/

/-- 2.3: the response to a write. -/
theorem test_write_done :
    look (step (writingState [0x02#8, 0x79#8] [.done []])) (fun t => (t.csN, t.rspLen, t.events)) =
      some (true, 0#6, [.done, .csDeassert, .respOk]) := by decide

/-- 2.4: the data phase of `RREG 0x24, 2`. -/
theorem test_read_addr_done :
    look (step { busyState .rAddr (.tx [0x48#8]) [.done []] with curSize := 2#6 })
      (fun t => (t.busOp, t.csN)) = some (some (.rx 2), false) := by decide

/-- 2.4: `RREG 0x10, 0` has no data phase. -/
theorem test_read_addr_only_done :
    look (step { busyState .rAddr (.tx [0x20#8]) [.done []] with curSize := 0#6 })
      (fun t => (t.phase, t.events)) = some (.resp, [.done, .csDeassert, .respData []]) := by decide

/-- 2.4: the device answers 0x80. -/
theorem test_read_data_done :
    look (step { busyState .rData (.rx 1) [.done [0x80#8]] with curSize := 1#6 })
      (fun t => (t.rspBytes, t.csN)) = some ([0x80#8], true) := by decide

/-- 2.5: the exchange is of 9 bytes, whatever they are. -/
theorem test_burst_cmd_done :
    look (step (busyState .bCmd (.tx [0xA4#8]) [.done []]))
      (fun t => (t.phase, t.csN, t.busOp.map replyLength)) = some (.bData, false, some 9) := by decide

/-- 2.5: the window comes back in received order. -/
theorem test_burst_data_done :
    look (step (busyState .bData (.xfer (List.replicate 9 0#8))
      [.done [0x00#8, 0x10#8, 0x00#8, 0xFF#8, 0xF0#8, 0x00#8, 0x00#8, 0x00#8, 0x01#8]]))
      (fun t => (t.rspLen, t.rspBytes)) =
      some (9#6, [0x00#8, 0x10#8, 0x00#8, 0xFF#8, 0xF0#8, 0x00#8, 0x00#8, 0x00#8, 0x01#8]) := by decide

/-- 2.8: after the take `STATUS = 0x06` and `req_ready = 0`. -/
theorem test_take_keeps_fault :
    look (step { respState [.take] with faulted := true, faultCode := 1#2 }) (fun t => (t.status, t.reqReady)) =
      some (0x06#8, false) := by decide

/-- 2.8: a faulted block does not accept `RREG 0x34, 1`. -/
theorem test_faulted_block_waits :
    step { faultedState 1#2 [] with reqValid := true, reqCmd := 0x05A1#16 } = .fault .waitReset := by rfl

/-- 2.8: reset of the stuck state. -/
theorem test_reset_of_stuck_read :
    look (step (busyState .rAddr (.tx [0x68#8]) [.reset])) (fun t => (t.csN, t.status, t.events)) =
      some (true, 0x00#8, [.reset, .csDeassert]) := by decide

/-- 2.8: a late `DONE` is ignored; one that nothing can explain is refused (I16). -/
theorem test_late_done :
    look (step { idleState [] with abandoned := 1, inputs := [.lateDone] }) (fun t => (t.abandoned, t.events)) =
      some (0, []) := by decide
theorem test_done_without_operation :
    step { idleState [] with inputs := [.done []] } = .refused .completionWithoutOperation := by rfl

/-- P4 step 2: the block is stuck. -/
theorem test_hang : step (busyState .rAddr (.tx [0x6C#8]) []) = .fault .hang := by rfl

/-- P1 request 2: what is known of the device after `WCC 200`, among other registers. -/
theorem test_commit_cycle_count :
    (Memory.commit [(0x01, 0x00#8)] 0x04#7 (cycleCountBytes 200#16)) =
      [(1, 0x00#8), (4, 0x00#8), (5, 0xC8#8), (6, 0x00#8), (7, 0xC8#8), (8, 0x00#8), (9, 0xC8#8)] := by decide

/-- D30, I7: a write past register 0x7F leaves nothing known. -/
theorem test_commit_past_end : Memory.commit [(1, 0x00#8)] 0x7F#7 [0x11#8, 0x22#8] = [] := by decide

/-- P1 and P3: the words of request lines (R72). -/
theorem test_assemble_write : assemble (.wreg (.number 1) [0x79]) = .ok ⟨0x0408#16, [0x79#8]⟩ := by rfl
theorem test_assemble_read : assemble (.rreg (.number 0x34) 1) = .ok ⟨0x05A1#16, []⟩ := by rfl
theorem test_assemble_refuses :
    (assemble (.wreg (.number 0x80) []), assemble (.wreg (.number 1) [256]), assemble (.rreg (.number 1) 64),
      assemble (.dec24 [1, 2])) =
    (.error .addressTooLarge, .error .byteTooLarge, .error .sizeTooLarge, .error .wrongLength) := by rfl

/-! ## Witnesses: for each statement with hypotheses, a state and operands that meet them -/

/-- `DecodeSelectsOneOutcome`: a word for each outcome, at the edges of the ranges. -/
theorem witness_DecodeSelectsOneOutcome :
    classify 0x7FF8#16 = .ok (.writeReg 0x7F#7 31#6) ∧ classify 0x8008#16 = .error .frameTooLong ∧
    classify 0xFFF9#16 = .ok (.readReg 0x7F#7 63#6) ∧ classify 0x0002#16 = .ok (.readBurst 0#7 0#6) ∧
    classify 0x000A#16 = .error .reservedField ∧ classify 0x0402#16 = .error .reservedField ∧
    classify 0x0003#16 = .ok (.decode24 0#7 0#6) ∧ classify 0x03FB#16 = .error .reservedField ∧
    classify 0x0004#16 = .ok (.decodeWindow 0#7 0#6) ∧ classify 0xFC04#16 = .error .reservedField ∧
    classify 0x0005#16 = .error .illegalOp ∧ classify 0xFFFF#16 = .error .illegalOp :=
  ⟨rfl, rfl, rfl, rfl, rfl, rfl, rfl, rfl, rfl, rfl, rfl, rfl⟩

/-- `OpcodeRowsPartitionTheWords`: a row and a word that fits it; a word that fits none. -/
theorem witness_OpcodeRowsPartitionTheWords :
    (⟨"READ_BURST", 0x0002#16, 0xFFFF#16⟩ : OpcodeRow) ∈ opcodeTable ∧
    rowMatches ⟨"READ_BURST", 0x0002#16, 0xFFFF#16⟩ 0x0002#16 = true ∧
    ∀ row ∈ opcodeTable, rowMatches row 0x000A#16 = false := by decide

/-- `AddressByteIsShiftedAddress`, `WriteRegStartsItsTransaction`: the largest legal SIZE; the address byte's bits. -/
theorem witness_WriteRegStartsItsTransaction : (31#6 : Size).toNat ≤ 31 ∧ 6 < 7 := by decide

/-- `ReservedOpcodesTakeIllegalOp`. -/
theorem witness_ReservedOpcodesTakeIllegalOp :
    Instr.reservedOp7 0x1FFF#13 ∈ [Instr.reservedOp5 0x1FFF#13, .reservedOp6 0x1FFF#13, .reservedOp7 0x1FFF#13] := by
  decide

/-- `ReservedFieldsTakeReservedField`: only ADDR, and only SIZE, not 0. -/
theorem witness_ReservedFieldsTakeReservedField :
    (((1#7 : DevAddr) ≠ 0#7 ∨ (0#6 : Size) ≠ 0#6) ∧
      Instr.readBurst 1#7 0#6 ∈ [Instr.readBurst 1#7 0#6, .decode24 1#7 0#6, .decodeWindow 1#7 0#6]) ∧
    (((0#7 : DevAddr) ≠ 0#7 ∨ (63#6 : Size) ≠ 0#6) ∧
      Instr.decodeWindow 0#7 63#6 ∈ [Instr.readBurst 0#7 63#6, .decode24 0#7 63#6, .decodeWindow 0#7 63#6]) := by
  decide

/-- `LongWriteFaultsAndShortWriteIsNotCut`: SIZE at the two sides of the limit, and at its end. -/
theorem witness_LongWriteFaultsAndShortWriteIsNotCut :
    32 ≤ (32#6 : Size).toNat ∧ 32 ≤ (63#6 : Size).toNat ∧ (31#6 : Size).toNat < 32 := by decide

/-- `FaultEntryAtAcceptance`. -/
theorem witness_FaultEntryAtAcceptance :
    acceptsNow (askState 0x8008#16 [] []) ∧ classify (askState 0x8008#16 [] []).reqCmd = .error .frameTooLong :=
  ⟨⟨rfl, rfl, nofun⟩, rfl⟩

/-- `TransportRequestFrame`: each of the three requests runs; the two clauses. -/
theorem witness_TransportRequestFrame :
    (Instr.writeReg 0x7F#7 31#6 ∈ [Instr.writeReg 0x7F#7 31#6, .readReg 0x7F#7 31#6, .readBurst 0x7F#7 31#6] ∧
      faultOf (.writeReg 0x7F#7 31#6) = none ∧ ∃ t, exec (.writeReg 0x7F#7 31#6) (idleState []) = .next t) ∧
    (faultOf (.readReg 0x7F#7 63#6) = none ∧ Instr.readReg 0x7F#7 63#6 ≠ .writeReg 0x7F#7 63#6 ∧
      ∃ t, exec (.readReg 0x7F#7 63#6) (idleState []) = .next t) ∧
    (faultOf (.readBurst 0#7 0#6) = none ∧ Instr.readBurst 0#7 0#6 ≠ .readReg 0#7 0#6 ∧
      ∃ t, exec (.readBurst 0#7 0#6) (idleState []) = .next t) :=
  ⟨⟨by decide, by decide, _, rfl⟩, ⟨by decide, by decide, _, rfl⟩, ⟨by decide, by decide, _, rfl⟩⟩

/-- `DecoderRequestFrame`. -/
theorem witness_DecoderRequestFrame :
    Instr.decode24 0#7 0#6 ∈ [Instr.decode24 0#7 0#6, .decodeWindow 0#7 0#6] ∧
    (∃ t, exec (.decode24 0#7 0#6) (idleState []) = .next t) ∧
    ∃ t, exec (.decodeWindow 0#7 0#6) (idleState []) = .next t :=
  ⟨by decide, ⟨_, rfl⟩, _, rfl⟩

/-- `FaultingRequestFrame`: each of the three faults. -/
theorem witness_FaultingRequestFrame :
    (faultOf (.writeReg 0#7 32#6) ≠ none ∧ ∃ t, exec (.writeReg 0#7 32#6) (idleState []) = .next t) ∧
    (faultOf (.decode24 0#7 1#6) ≠ none ∧ ∃ t, exec (.decode24 0#7 1#6) (idleState []) = .next t) ∧
    (faultOf (.reservedOp6 0#13) ≠ none ∧ ∃ t, exec (.reservedOp6 0#13) (idleState []) = .next t) :=
  ⟨⟨by decide, _, rfl⟩, ⟨by decide, _, rfl⟩, ⟨by decide, _, rfl⟩⟩

/-- `StepRunsTheDecodedRequest`: both hypotheses. -/
theorem witness_StepRunsTheDecodedRequest :
    acceptsNow (askState 0x05A1#16 [] [.done []]) ∧
    (idleState []).reqReady = true ∧ (idleState []).inputs.head? ≠ some .reset ∧ 0xFFFF < 2 ^ 16 :=
  ⟨⟨rfl, rfl, nofun⟩, rfl, nofun, by decide⟩

/-- `PresentedRequestWaits`: a busy block with a request presented while the device loses power; and one to which a
request is presented. -/
theorem witness_PresentedRequestWaits :
    (let s := { busyState .rAddr (.tx [0x68#8]) [.devicePowerLoss] with reqValid := true }
     s.reqReady = false ∧ s.reqValid = true ∧ (∃ t, step s = .next t) ∧
      (∀ cmd data, s.inputs.head? ≠ some (.present cmd data)) ∧ s.inputs.head? ≠ some .withdraw) ∧
    (let s := faultedState 1#2 [.present 0x05A1#16 (Vector.replicate 63 0#8)]
     s.reqReady = false ∧ s.inputs = .present 0x05A1#16 (Vector.replicate 63 0#8) :: []) :=
  ⟨⟨rfl, rfl, ⟨_, rfl⟩, nofun, nofun⟩, rfl, rfl⟩

/-- `WriteCompletesOnDone`. -/
theorem witness_WriteCompletesOnDone :
    let s := busyState .wFrame (.tx [0x02#8, 0x79#8]) [.done []]
    s.phase = .wFrame ∧ s.busOp = some (.tx [0x02#8, 0x79#8]) ∧ s.inputs = .done [] :: [] := ⟨rfl, rfl, rfl⟩

/-- `ReadAddressPhaseCompletesOnDone`: SIZE 0, 1 and 63. -/
theorem witness_ReadAddressPhaseCompletesOnDone :
    let s := busyState .rAddr (.tx [0x68#8]) [.done []]
    (s.phase = .rAddr ∧ s.busOp = some (.tx [0x68#8]) ∧ s.inputs = .done [] :: []) ∧
    { s with curSize := 0#6 }.curSize = 0#6 ∧ { s with curSize := 1#6 }.curSize ≠ 0#6 ∧
    { s with curSize := 63#6 }.curSize ≠ 0#6 := ⟨⟨rfl, rfl, rfl⟩, rfl, by decide, by decide⟩

/-- `ReadDataPhaseCompletesOnDone`: the smallest and the largest receive. -/
theorem witness_ReadDataPhaseCompletesOnDone :
    (let s := { busyState .rData (.rx 1) [.done [0x80#8]] with curSize := 1#6 }
     s.phase = .rData ∧ s.busOp = some (.rx s.curSize.toNat) ∧ s.inputs = .done [0x80#8] :: [] ∧
      [0x80#8].length = s.curSize.toNat) ∧
    (let s := { busyState .rData (.rx 63) [.done (List.replicate 63 0xFF#8)] with curSize := 63#6 }
     s.phase = .rData ∧ s.busOp = some (.rx s.curSize.toNat) ∧ s.inputs = .done (List.replicate 63 0xFF#8) :: [] ∧
      (List.replicate 63 0xFF#8).length = s.curSize.toNat) :=
  ⟨⟨rfl, rfl, rfl, rfl⟩, rfl, rfl, rfl, rfl⟩

/-- `BurstCompletesOnDone`: both completions. -/
theorem witness_BurstCompletesOnDone :
    (let s := busyState .bCmd (.tx [0xA4#8]) [.done []]
     s.phase = .bCmd ∧ s.busOp = some (.tx [0xA4#8]) ∧ s.inputs = .done [] :: []) ∧
    (let s := busyState .bData (.xfer (List.replicate 9 0#8)) [.done (List.replicate 9 1#8)]
     s.phase = .bData ∧ s.busOp = some (.xfer (List.replicate 9 0#8)) ∧
      s.inputs = .done (List.replicate 9 1#8) :: [] ∧ (List.replicate 9 0#8).length = 9 ∧
      (List.replicate 9 1#8).length = 9) := ⟨⟨rfl, rfl, rfl⟩, rfl, rfl, rfl, rfl, rfl⟩

/-- `TakenResponseLeavesIdle`. -/
theorem witness_TakenResponseLeavesIdle :
    (respState [.take]).phase = .resp ∧ (respState [.take]).inputs = .take :: [] := ⟨rfl, rfl⟩

/-- `ResetGivesResetValues`: of a block with an operation outstanding. -/
theorem witness_ResetGivesResetValues :
    (busyState .rAddr (.tx [0x68#8]) [.reset]).inputs = .reset :: [] := rfl

/-- `ResetAbandonsTheTransaction`. -/
theorem witness_ResetAbandonsTheTransaction :
    let s := busyState .wFrame (.tx [0x08#8, 0x00#8]) [.reset, .lateDone]
    s.busOp = some (.tx [0x08#8, 0x00#8]) ∧ s.csN = false ∧ s.reqValid = false ∧
      s.inputs = .reset :: .lateDone :: [] := ⟨rfl, rfl, rfl, rfl⟩

/-- `ImpossibleCompletionIsRefused`: its three clauses. -/
theorem witness_ImpossibleCompletionIsRefused :
    (let s := { idleState [] with inputs := [.done []] }
     s.inputs = .done [] :: [] ∧ s.reqValid = false ∧ s.busOp = none) ∧
    (let s := busyState .rData (.rx 2) [.done [0x80#8]]
     s.inputs = .done [0x80#8] :: [] ∧ s.reqReady = false ∧ s.busOp = some (.rx 2) ∧
      [0x80#8].length ≠ replyLength (.rx 2)) ∧
    (let s := { respState [.done []] with busOp := some (.tx [0x68#8]) }
     s.inputs = .done [] :: [] ∧ s.reqReady = false ∧ s.busOp = some (.tx [0x68#8]) ∧
      ([] : List Byte).length = replyLength (.tx [0x68#8]) ∧ s.phase = .resp) :=
  ⟨⟨rfl, rfl, rfl⟩, ⟨rfl, rfl, rfl, by decide⟩, rfl, rfl, rfl, rfl, rfl⟩

/-- `StepKeepsInvariant`: a block about to accept a request, and one that waits for the address phase of a read. -/
theorem witness_StepKeepsInvariant :
    (Inv (askState 0x05A1#16 [] []) ∧ ∃ t, step (askState 0x05A1#16 [] []) = .next t) ∧
    (let s := { busyState .rAddr (.tx [0x68#8]) [.done []] with
        curAddr := 0x34#7, curSize := 1#6, device := [(4, 0x00#8), (5, 0xC8#8)],
        events := [.accept 0x05A1#16, .csAssert, .issue (.tx [0x68#8])] }
     Inv s ∧ ∃ t, step s = .next t) := by
  refine ⟨⟨⟨rfl, rfl, by decide, by decide, nofun, rfl, rfl⟩, _, rfl⟩, ?_⟩
  exact ⟨⟨rfl, rfl, by decide, by decide, nofun, rfl, rfl⟩, _, rfl⟩

/-- `StepFollowsTheStepRelation`: steps of both kinds. -/
theorem witness_StepFollowsTheStepRelation :
    (∃ t, step (askState 0x0004#16 [] []) = .next t) ∧ (∃ t, step (respState [.take]) = .next t) ∧
    ∃ t, step { idleState [] with inputs := [.present 0x0002#16 (Vector.replicate 63 0#8)] } = .next t :=
  ⟨⟨_, rfl⟩, ⟨_, rfl⟩, _, rfl⟩

/-- `OutstandingOperationHangs`: with things to come, with nothing to come, with a reset to come. -/
theorem witness_OutstandingOperationHangs :
    (let s := busyState .rAddr (.tx [0x6C#8]) [.take, .devicePowerLoss]
     s.busOp = some (.tx [0x6C#8]) ∧ s.phase ≠ .idle ∧ s.phase ≠ .resp ∧ s.csN = false ∧
      (∀ i ∈ s.inputs, isDoneOrReset i = false) ∧ ∃ t, runSteps 2 s = .next t) ∧
    (let s := busyState .bData (.xfer (List.replicate 9 0#8)) []
     s.busOp = some (.xfer (List.replicate 9 0#8)) ∧ s.phase ≠ .idle ∧ s.phase ≠ .resp ∧ s.csN = false ∧
      (∀ i ∈ s.inputs, isDoneOrReset i = false) ∧ s.inputs = []) ∧
    (let s := busyState .wFrame (.tx [0x00#8]) [.reset]
     s.busOp = some (.tx [0x00#8]) ∧ s.phase ≠ .idle ∧ s.phase ≠ .resp ∧ s.csN = false ∧
      s.inputs = .reset :: []) :=
  ⟨⟨rfl, nofun, nofun, rfl, by decide, _, rfl⟩, ⟨rfl, nofun, nofun, rfl, nofun, rfl⟩, rfl, nofun, nofun, rfl, rfl⟩

/-- `FaultIsSticky`: with a request and a take to come, with nothing to come, with a reset to come. -/
theorem witness_FaultIsSticky :
    (let s := faultedState 3#2 [.present 0x05A1#16 (Vector.replicate 63 0#8), .take]
     s.phase = .idle ∧ s.faulted = true ∧ s.csN = true ∧ (∀ i ∈ s.inputs, i ≠ .reset) ∧
      ∃ t, runSteps 2 s = .next t) ∧
    (let s := faultedState 3#2 []
     s.phase = .idle ∧ s.faulted = true ∧ s.csN = true ∧ (∀ i ∈ s.inputs, i ≠ .reset) ∧ s.inputs = []) ∧
    (let s := faultedState 3#2 [.reset]
     s.phase = .idle ∧ s.faulted = true ∧ s.csN = true ∧ s.inputs = .reset :: []) :=
  ⟨⟨rfl, rfl, rfl, by simp [faultedState], _, rfl⟩, ⟨rfl, rfl, rfl, nofun, rfl⟩, rfl, rfl, rfl, rfl⟩

/-- `FaultRecordChangesOnlyByFaultEntryAndReset`: a faulted block that steps; one that faults in the step; one that
does not. -/
theorem witness_FaultRecordChangesOnlyByFaultEntryAndReset :
    (let s := { respState [.take] with faulted := true, faultCode := 2#2 }
     (∃ t, step s = .next t) ∧ s.inputs.head? ≠ some .reset ∧ s.faulted = true) ∧
    (let s := askState 0x0005#16 [] []
     (∃ t, step s = .next t ∧ t.faulted = true) ∧ s.inputs.head? ≠ some .reset ∧ s.faulted = false) ∧
    (let s := askState 0x0004#16 [] []
     (∃ t, step s = .next t ∧ t.faulted = false) ∧ s.inputs.head? ≠ some .reset ∧ s.faulted = false) :=
  ⟨⟨⟨_, rfl⟩, nofun, rfl⟩, ⟨⟨_, rfl, rfl⟩, nofun, rfl⟩, ⟨_, rfl, rfl⟩, nofun, rfl⟩

/-- `ChipSelectMovesOnlyAtWindowEdges`: a step in which it falls, and the two in which it rises. -/
theorem witness_ChipSelectMovesOnlyAtWindowEdges :
    (let s := askState 0x0002#16 [] []
     ∃ t, step s = .next t ∧ s.csN = true ∧ t.csN = false) ∧
    (let s := writingState [0x00#8] [.done []]
     ∃ t, step s = .next t ∧ s.csN = false ∧ t.csN = true) ∧
    (let s := busyState .bCmd (.tx [0xA4#8]) [.reset]
     ∃ t, step s = .next t ∧ s.csN = false ∧ t.csN = true) :=
  ⟨⟨_, rfl, rfl, rfl⟩, ⟨_, rfl, rfl, rfl⟩, _, rfl, rfl, rfl⟩

/-- `ResponseFollowsDeassert`. -/
theorem witness_ResponseFollowsDeassert :
    let s := { busyState .rData (.rx 1) [.done [0x80#8]] with curSize := 1#6 }
    ∃ t, step s = .next t ∧ s.phase ≠ .idle ∧ s.phase ≠ .resp ∧ t.phase = .resp :=
  ⟨_, rfl, nofun, nofun, rfl⟩

/-- `WholeWriteTransaction`: the empty and the largest payload. -/
theorem witness_WholeWriteTransaction :
    (let s := askState 0x0000#16 [] [.done []]
     acceptsNow s ∧ s.reqCmd = encode (.writeReg 0#7 0#6) ∧ (0#6 : Size).toNat ≤ 31 ∧ s.inputs = .done [] :: []) ∧
    (let s := askState 0x7FF8#16 (List.replicate 31 0xFE#8) [.done []]
     acceptsNow s ∧ s.reqCmd = encode (.writeReg 0x7F#7 31#6) ∧ (31#6 : Size).toNat ≤ 31 ∧
      s.inputs = .done [] :: []) :=
  ⟨⟨⟨rfl, rfl, nofun⟩, by decide, by decide, rfl⟩, ⟨rfl, rfl, nofun⟩, by decide, by decide, rfl⟩

/-- `WholeReadTransaction`: the smallest and the largest read. -/
theorem witness_WholeReadTransaction :
    (let s := askState 0x05A1#16 [] [.done [], .done [0x80#8]]
     acceptsNow s ∧ s.reqCmd = encode (.readReg 0x34#7 1#6) ∧ (1#6 : Size) ≠ 0#6 ∧
      [0x80#8].length = (1#6 : Size).toNat ∧ s.inputs = .done [] :: .done [0x80#8] :: []) ∧
    (let s := askState 0xFFF9#16 [] [.done [], .done (List.replicate 63 0#8)]
     acceptsNow s ∧ s.reqCmd = encode (.readReg 0x7F#7 63#6) ∧ (63#6 : Size) ≠ 0#6 ∧
      (List.replicate 63 0#8).length = (63#6 : Size).toNat ∧
      s.inputs = .done [] :: .done (List.replicate 63 0#8) :: []) :=
  ⟨⟨⟨rfl, rfl, nofun⟩, by decide, by decide, rfl, rfl⟩, ⟨rfl, rfl, nofun⟩, by decide, by decide, rfl, rfl⟩

/-- `ReadOfSizeZeroHasNoDataPhase`. -/
theorem witness_ReadOfSizeZeroHasNoDataPhase :
    let s := askState 0x0081#16 [] [.done []]
    acceptsNow s ∧ s.reqCmd = encode (.readReg 0x10#7 0#6) ∧ s.inputs = .done [] :: [] :=
  ⟨⟨rfl, rfl, nofun⟩, by decide, rfl⟩

/-- `WholeBurstTransaction`: also with another draw. -/
theorem witness_WholeBurstTransaction :
    let s := askState 0x0002#16 [] [.done [], .done (List.replicate 9 0xFF#8)]
    acceptsNow s ∧ s.reqCmd = encode (.readBurst 0#7 0#6) ∧ (List.replicate 9 0xFF#8).length = 9 ∧
      s.inputs = .done [] :: .done (List.replicate 9 0xFF#8) :: [] ∧
      (∃ t, runSteps 3 s = .next t) ∧ ∃ u, runSteps 3 { s with draws := 77 } = .next u :=
  ⟨⟨rfl, rfl, nofun⟩, by decide, rfl, rfl, ⟨_, rfl⟩, _, rfl⟩

/-- `DecodeIsExactSignExtension`: the sign bit set and clear, at the ends of both ranges. -/
theorem witness_DecodeIsExactSignExtension :
    (0x80#8 : Byte).getLsbD 7 = true ∧ (0xFF#8 : Byte).getLsbD 7 = true ∧ (0x7F#8 : Byte).getLsbD 7 = false ∧
    (0x00#8 : Byte).getLsbD 7 = false := by decide

/-- `DecoderReadsOnlyItsOperands`: two states that agree on lane X only. -/
theorem witness_DecoderReadsOnlyItsOperands :
    let s := idleState [0x80#8, 1#8, 2#8, 3#8]
    let s' := { idleState [0x80#8, 1#8, 2#8, 4#8] with device := [(4, 1#8)], events := [.take] }
    (∃ t, exec (.decodeWindow 0#7 0#6) s = .next t) ∧ (∃ t, exec (.decodeWindow 0#7 0#6) s' = .next t) ∧
    (∃ t, exec (.decode24 0#7 0#6) s = .next t) ∧ (∃ t, exec (.decode24 0#7 0#6) s' = .next t) ∧
    (∀ i (_ : i < 3), s.reqData[i] = s'.reqData[i]) ∧ (∀ i (_ : i < 3), s.reqData[i + 6] = s'.reqData[i + 6]) ∧
    s.reqData ≠ s'.reqData :=
  ⟨⟨_, rfl⟩, ⟨_, rfl⟩, ⟨_, rfl⟩, ⟨_, rfl⟩, by decide, by decide, by decide⟩

/-- `UnreadDataBytesAreIgnored`: data that differ after the three bytes of DECODE24. -/
theorem witness_UnreadDataBytesAreIgnored :
    let s := idleState [0x80#8, 1#8, 2#8]
    let data : Vector Byte 63 := overlay [0x80#8, 1#8, 2#8] (Vector.replicate 63 0xFF#8)
    data.toList.take (operandCount (.decode24 0#7 0#6)) = s.reqData.toList.take (operandCount (.decode24 0#7 0#6)) ∧
    (∃ t, exec (.decode24 0#7 0#6) s = .next t) ∧ data ≠ s.reqData := ⟨by decide, ⟨_, rfl⟩, by decide⟩

/-- `CommittedWriteReadsBack`: a write that ends with register 0x7F, and one that goes past it. -/
theorem witness_CommittedWriteReadsBack :
    (0x7A#7 : DevAddr).toNat + [1#8, 2#8, 3#8, 4#8, 5#8, 6#8].length ≤ 128 ∧
    128 < (0x7A#7 : DevAddr).toNat + [1#8, 2#8, 3#8, 4#8, 5#8, 6#8, 7#8].length ∧
    [1#8, 2#8, 3#8, 4#8, 5#8, 6#8][5]? = some 6#8 ∧ (0x79 < (0x7A#7 : DevAddr).toNat) ∧
    Memory.wf [(4, 0x00#8), (5, 0xC8#8)] = true := by decide

/-- `DeviceChangesOnlyAtWriteDeassert`: a write's completion, a take inside its window, and a step in another phase. -/
theorem witness_DeviceChangesOnlyAtWriteDeassert :
    (let s := writingState [0x02#8, 0x79#8] [.done []]
     (∃ t, step s = .next t) ∧ s.phase = .wFrame ∧ s.inputs.head? = some (.done []) ∧
      sentFrame s = addrByte 0x01#7 :: [0x79#8]) ∧
    (let s := writingState [0x02#8, 0x79#8] [.take]
     (∃ t, step s = .next t) ∧ ¬(s.phase = .wFrame ∧ ∃ d, s.inputs.head? = some (.done d)) ∧
      s.inputs.head? ≠ some .reset ∧ s.inputs.head? ≠ some .devicePowerLoss) ∧
    (let s := { busyState .rAddr (.tx [0x68#8]) [.done []] with device := [(1, 0x79#8)] }
     (∃ t, step s = .next t) ∧ ¬(s.phase = .wFrame ∧ ∃ d, s.inputs.head? = some (.done d)) ∧
      s.inputs.head? ≠ some .reset ∧ s.inputs.head? ≠ some .devicePowerLoss) :=
  ⟨⟨⟨_, rfl⟩, rfl, rfl, by decide⟩, ⟨⟨_, rfl⟩, fun h => (nomatch h.2), nofun, nofun⟩, ⟨_, rfl⟩,
    fun h => (nomatch h.1), nofun, nofun⟩

/-- `CycleCountRoundTrip`: the highest place of the six registers, cycle count 200, a read of the last of them. -/
theorem witness_CycleCountRoundTrip :
    let s := { busyState .rData (.rx 1) [.done [0xC8#8]] with
      curAddr := 0x7F#7, curSize := 1#6, device := Memory.commit [] 0x7A#7 (cycleCountBytes 200#16) }
    (0x7A#7 : DevAddr).toNat + 6 ≤ 128 ∧ 5 < 6 ∧ s.phase = .rData ∧ s.curSize = 1#6 ∧
    s.curAddr.toNat = (0x7A#7 : DevAddr).toNat + 5 ∧ s.inputs.head? = some (.done [0xC8#8]) ∧
    answerKeepsCycleCount 0x7A#7 s [0xC8#8] ∧ ∃ t, step s = .next t := by
  refine ⟨by decide, by decide, rfl, rfl, by decide, rfl, ?_, _, rfl⟩
  intro i v _ _ _ _ h
  have : some (0xC8#8 : Byte) = some v := h
  simpa using this

/-- `AssemblerEmitsLegalRequests`: an accepted line, and the ends of the ranges. -/
theorem witness_AssemblerEmitsLegalRequests :
    (∃ r, assemble (.decwin [0, 16, 0, 255, 240, 0, 0, 0, 1]) = .ok r) ∧
    (0x7F < 128 ∧ (∀ b ∈ List.replicate 31 255, b < 256) ∧ (List.replicate 31 255).length ≤ 31) ∧ 63 ≤ 63 :=
  ⟨⟨_, rfl⟩, by decide, by decide⟩

/-- `CycleCountRequestIsOneSixByteWrite`: the largest cycle count. -/
theorem witness_CycleCountRequestIsOneSixByteWrite : 0xFFFF < 2 ^ 16 := by decide

/-- `NoStepChangesBurstCommand`: an acceptance, a completion, a take and a reset. -/
theorem witness_NoStepChangesBurstCommand :
    (∃ t, step (askState 0x0002#16 [] []) = .next t) ∧
    (∃ t, step (busyState .bCmd (.tx [0xA4#8]) [.done []]) = .next t) ∧
    (∃ t, step (respState [.take]) = .next t) ∧ ∃ t, step (respState [.reset]) = .next t :=
  ⟨⟨_, rfl⟩, ⟨_, rfl⟩, ⟨_, rfl⟩, _, rfl⟩

/-- `CompletionFrame`: a write, the two ends of a read's address phase, and the two completions of a burst. -/
theorem witness_CompletionFrame :
    (let s := writingState [0x02#8, 0x79#8] [.done []]
     s.inputs = .done [] :: [] ∧ s.reqReady = false ∧ s.phase ≠ .rData ∧ s.phase ≠ .bData ∧ s.phase ≠ .bCmd ∧
      ∃ t, step s = .next t) ∧
    (let s := { busyState .rAddr (.tx [0x68#8]) [.done []] with curSize := 63#6 }
     s.inputs = .done [] :: [] ∧ s.reqReady = false ∧ s.phase ≠ .wFrame ∧
      ∃ t, step s = .next t ∧ t.phase ≠ .resp) ∧
    (let s := { busyState .rAddr (.tx [0x68#8]) [.done []] with curSize := 0#6 }
     s.inputs = .done [] :: [] ∧ s.reqReady = false ∧ ∃ t, step s = .next t ∧ t.phase = .resp) ∧
    (let s := busyState .bCmd (.tx [0xA4#8]) [.done []]
     s.inputs = .done [] :: [] ∧ s.reqReady = false ∧ ∃ t, step s = .next t ∧ t.phase ≠ .resp) ∧
    (let s := busyState .bData (.xfer (List.replicate 9 0#8)) [.done (List.replicate 9 1#8)]
     s.inputs = .done (List.replicate 9 1#8) :: [] ∧ s.reqReady = false ∧ ∃ t, step s = .next t) :=
  ⟨⟨rfl, rfl, nofun, nofun, nofun, _, rfl⟩, ⟨rfl, rfl, nofun, _, rfl, nofun⟩, ⟨rfl, rfl, _, rfl, rfl⟩,
    ⟨rfl, rfl, _, rfl, nofun⟩, rfl, rfl, _, rfl⟩

end Sys2Proof.Tests
end

section
/-! SUPPORT. The invariant of `Safety.Inv`, phase by phase, and one rule per operation of the block. -/

namespace Sys2Proof.Proofs

open Sys2Proof.Machine Sys2Proof.Safety Sys2Proof.Laws

/-! What the inversion lemmas of `Laws` leave open. -/

theorem reqReady_iff (s : State) : s.reqReady = true ↔ s.phase = .idle ∧ s.faulted = false := by
  simp [State.reqReady]

theorem onLateDone_next {s t : State} (h : onLateDone s = .next t) : t = { s with abandoned := s.abandoned - 1 } := by
  unfold onLateDone at h
  split at h <;> cases h
  rfl

/-- A take touches neither the chip-select line nor the build-time parameter. -/
theorem onTake_frame (s : State) : (onTake s).csN = s.csN ∧ (onTake s).burstCmd = s.burstCmd := by
  by_cases hp : s.phase = .resp
  · rw [onTake_resp s hp]
    exact ⟨rfl, rfl⟩
  · rw [onTake_other s hp]
    exact ⟨rfl, rfl⟩

/-! The invariant in each kind of phase. -/

theorem inv_iff_of_idle {s : State} (hp : s.phase = .idle) :
    Inv s ↔ s.csN = true ∧ s.busOp = none ∧ (s.faulted = false ↔ s.faultCode = 0#2) ∧ s.device.wf = true ∧
      Monitor.run .quiet s.events = some .quiet := by
  have hch : channelMatchesPhase s ↔ s.busOp = none := by simp [channelMatchesPhase, hp]
  constructor
  · intro h
    exact ⟨by simp [h.chipSelect, hp], hch.1 h.channel, h.faultCode, h.device, monitorOf_idle hp ▸ h.protocol⟩
  · rintro ⟨hcs, hop, hfault, hdev, hrun⟩
    exact ⟨by simp [hcs, hp], hch.2 hop, hfault, fun _ => .inl hp, by simp [hp], hdev, monitorOf_idle hp ▸ hrun⟩

theorem inv_iff_of_resp {s : State} (hp : s.phase = .resp) :
    Inv s ↔ s.csN = true ∧ s.busOp = none ∧ (s.faulted = false ↔ s.faultCode = 0#2) ∧ s.rspStatus = s.faultCode ∧
      s.device.wf = true ∧ Monitor.run .quiet s.events = some .responded := by
  have hch : channelMatchesPhase s ↔ s.busOp = none := by simp [channelMatchesPhase, hp]
  constructor
  · intro h
    exact ⟨by simp [h.chipSelect, hp], hch.1 h.channel, h.faultCode, h.status hp, h.device,
      monitorOf_resp hp ▸ h.protocol⟩
  · rintro ⟨hcs, hop, hfault, hst, hdev, hrun⟩
    exact ⟨by simp [hcs, hp], hch.2 hop, hfault, fun _ => .inr hp, fun _ => hst, hdev, monitorOf_resp hp ▸ hrun⟩

theorem inv_iff_of_waiting {s : State} {op : BusOp} (hi : s.phase ≠ .idle) (hr : s.phase ≠ .resp)
    (hop : s.busOp = some op) :
    Inv s ↔ s.csN = false ∧ channelMatchesPhase s ∧ s.faulted = false ∧ s.faultCode = 0#2 ∧ s.device.wf = true ∧
      Monitor.run .quiet s.events = some (.busy op) := by
  constructor
  · intro h
    have hf : s.faulted = false := by
      by_contra hf
      exact (h.faultedPhase (by simpa using hf)).elim hi hr
    exact ⟨by simp [h.chipSelect, hi, hr], h.channel, hf, h.faultCode.1 hf, h.device,
      monitorOf_busy hop hi hr ▸ h.protocol⟩
  · rintro ⟨hcs, hch, hf, hcode, hdev, hrun⟩
    exact ⟨by simp [hcs, hi, hr], hch, by simp [hf, hcode], by simp [hf], fun h => absurd h hr, hdev,
      monitorOf_busy hop hi hr ▸ hrun⟩

theorem exists_busOp_of_waiting {s : State} (hs : Inv s) (hi : s.phase ≠ .idle) (hr : s.phase ≠ .resp) :
    ∃ op, s.busOp = some op := by
  have hch := hs.channel
  unfold channelMatchesPhase at hch
  split at hch
  · exact absurd ‹_› hi
  · exact ⟨_, hch.1⟩
  · exact ⟨_, hch⟩
  · exact ⟨_, hch.1⟩
  · exact ⟨_, hch⟩
  · obtain ⟨bytes, hop, -⟩ := hch
    exact ⟨_, hop⟩
  · exact absurd ‹_› hr

/-- The invariant says nothing of the request port, the receive buffer, the late completions due, what is to come from
outside and the draw number, and of the device only that its content is in canonical form. -/
theorem inv_of_unconstrained_fields {s : State} {valid : Bool} {cmd : Cmd} {data rxbuf : Vector Byte 63}
    {device : Memory} {abandoned draws : Nat} {inputs : List Input} (h : Inv s) (hd : device.wf = true) :
    Inv { s with reqValid := valid, reqCmd := cmd, reqData := data, rxbuf := rxbuf, device := device,
                 abandoned := abandoned, inputs := inputs, draws := draws } :=
  ⟨h.chipSelect, h.channel, h.faultCode, h.faultedPhase, h.status, hd, h.protocol⟩

/-! Between two operations of one step. -/

/-- The block in the middle of a step: nothing is outstanding, it is not faulted, `cs_n` has the given level and the
events so far end at the given place of the protocol. -/
def MidStep (s : State) (level : Bool) (m : Monitor) : Prop :=
  s.csN = level ∧ s.busOp = none ∧ s.faulted = false ∧ s.faultCode = 0#2 ∧ s.device.wf = true ∧
    Monitor.run .quiet s.events = some m

/-- Acceptance: from the invariant of a ready block into its acceptance step. -/
theorem midStep_beginRequest {s : State} (hs : Inv s) (hp : s.phase = .idle) (hf : s.faulted = false) :
    MidStep s.beginRequest true .accepted := by
  obtain ⟨hcs, hop, hfault, hdev, hrun⟩ := (inv_iff_of_idle hp).1 hs
  exact ⟨hcs, hop, hf, hfault.1 hf, hdev, by simp [run_append, hrun]⟩

theorem midStep_csAssert {s : State} (h : MidStep s true .accepted) : MidStep s.csAssert false .selected := by
  obtain ⟨-, hop, hf, hcode, hdev, hrun⟩ := h
  exact ⟨rfl, hop, hf, hcode, hdev, by simp [run_append, hrun]⟩

/-- The completion of the outstanding operation, with as many bytes as it receives (R82). -/
theorem midStep_retire {s : State} {op : BusOp} {d : List Byte} (hs : Inv s) (hi : s.phase ≠ .idle)
    (hr : s.phase ≠ .resp) (hop : s.busOp = some op) (hl : d.length = replyLength op) :
    MidStep (s.retire op d) false (afterAnswer op) := by
  obtain ⟨hcs, -, hf, hcode, hdev, hrun⟩ := (inv_iff_of_waiting hi hr hop).1 hs
  exact ⟨hcs, rfl, hf, hcode, hdev, by simp [run_append, hrun, next_busy_doneEvent hl]⟩

theorem next_afterAnswer_csDeassert (op : BusOp) : (afterAnswer op).next .csDeassert = some .released := by
  cases op <;> rfl

theorem midStep_csDeassert {s : State} {level : Bool} {m : Monitor} (h : MidStep s level m)
    (he : m.next .csDeassert = some .released) : MidStep s.csDeassert true .released := by
  obtain ⟨-, hop, hf, hcode, hdev, hrun⟩ := h
  exact ⟨rfl, hop, hf, hcode, hdev, by simp [run_append, hrun, he]⟩

/-- The completion that ends the window (R81). -/
theorem midStep_endTransaction {s : State} {op : BusOp} {d : List Byte} (hs : Inv s) (hi : s.phase ≠ .idle)
    (hr : s.phase ≠ .resp) (hop : s.busOp = some op) (hl : d.length = replyLength op) :
    MidStep (s.endTransaction op d) true .released :=
  midStep_csDeassert (midStep_retire hs hi hr hop hl) (next_afterAnswer_csDeassert op)

theorem midStep_commitFrame {s : State} {level : Bool} {m : Monitor} (h : MidStep s level m) :
    MidStep s.commitFrame level m := by
  rw [commitFrame_eq]
  obtain ⟨hcs, hop, hf, hcode, hdev, hrun⟩ := h
  exact ⟨hcs, hop, hf, hcode, commitFrame_wf s hdev, hrun⟩

/-! From the middle of a step back to the invariant. -/

/-- A bus operation that the protocol allows is issued for the phase that waits for it (R82). -/
theorem inv_issue {s : State} {m : Monitor} {p : Phase} {op : BusOp} (h : MidStep s false m) (hi : p ≠ .idle)
    (hr : p ≠ .resp) (he : m.next (.issue op) = some (.busy op)) (hch : channelMatchesPhase (s.issue p op)) :
    Inv (s.issue p op) := by
  obtain ⟨hcs, -, hf, hcode, hdev, hrun⟩ := h
  exact (inv_iff_of_waiting hi hr rfl).2 ⟨hcs, hch, hf, hcode, hdev, by simp [run_append, hrun, he]⟩

/-- The first operation of a transaction, in a new window (R81). -/
theorem inv_startTransaction {s : State} {p : Phase} {op : BusOp} (h : MidStep s true .accepted) (hi : p ≠ .idle)
    (hr : p ≠ .resp) (hopen : opensTransaction op = true) (hch : channelMatchesPhase (s.startTransaction p op)) :
    Inv (s.startTransaction p op) :=
  inv_issue (midStep_csAssert h) hi hr (next_selected_issue hopen) hch

/-- A response OK is presented where the protocol allows it (R27, R89). -/
theorem inv_respond {s : State} {m : Monitor} {e : Event} (h : MidStep s true m) (hp : s.phase = .resp)
    (hst : s.rspStatus = 0#2) (he : m.next e = some .responded) : Inv (s.record [e]) := by
  obtain ⟨hcs, hop, hf, hcode, hdev, hrun⟩ := h
  exact (inv_iff_of_resp (s := s.record [e]) hp).2
    ⟨hcs, hop, by simp [hf, hcode], by simp [hst, hcode], hdev, by simp [run_append, hrun, he]⟩

/-- No fault has the code that means no fault (R24, R110). -/
theorem faultCode_bits_ne_zero (c : FaultCode) : c.bits ≠ 0#2 := by
  cases c <;> decide

/-- Fault entry (R112). -/
theorem inv_takeFault {s : State} (h : MidStep s true .accepted) (c : FaultCode) : Inv (s.takeFault c) := by
  obtain ⟨hcs, hop, -, -, hdev, hrun⟩ := h
  exact (inv_iff_of_resp rfl).2
    ⟨hcs, hop, by simp [faultCode_bits_ne_zero], rfl, hdev, by simp [run_append, hrun]⟩

/-! The acceptance actions. -/

theorem inv_startWrite {a : DevAddr} {n : Size} {s : State} (h : MidStep s true .accepted) (hn : n.toNat < 32) :
    Inv (startWrite a n s) := by
  have hlen : (n + 1#6).toNat = n.toNat + 1 := by
    rw [BitVec.toNat_add]
    exact Nat.mod_eq_of_lt (by simp; omega)
  refine inv_startTransaction (s := { s with frame := _, frameLen := _ }) h nofun nofun ?_ ?_
  · simp [opensTransaction, Config.maxFrame]
    omega
  · show (startWrite a n s).busOp = some (.tx (sentFrame (startWrite a n s))) ∧ _ ∧ _
    rw [sentFrame_startWrite a n s hn]
    refine ⟨rfl, ?_, ?_⟩
    · show 1 ≤ (n + 1#6).toNat
      omega
    · show (n + 1#6).toNat ≤ 32
      omega

theorem inv_startRead {a : DevAddr} {n : Size} {s : State} (h : MidStep s true .accepted) :
    Inv (startRead a n s) :=
  inv_startTransaction (s := { s with curAddr := a, curSize := n }) h nofun nofun rfl rfl

theorem inv_startBurst {s : State} (h : MidStep s true .accepted) : Inv (startBurst s) :=
  inv_startTransaction h nofun nofun rfl rfl

/-- Every request, accepted by a block that meets the invariant, leaves one that meets it. -/
theorem inv_exec {i : Instr} {s t : State} (h : MidStep s true .accepted) (he : exec i s = .next t) : Inv t := by
  rcases exec_cases he with ⟨c, -, rfl⟩ | ⟨a, n, -, hn, rfl⟩ | ⟨a, n, -, rfl⟩ | ⟨-, rfl⟩ | ⟨-, rfl⟩ | ⟨-, rfl⟩
  · exact inv_takeFault h c
  · exact inv_startWrite h hn
  · exact inv_startRead h
  · exact inv_startBurst h
  · exact inv_respond (s := { s with rspStatus := _, rspX := _, phase := _ }) h rfl rfl rfl
  · exact inv_respond (s := { s with rspStatus := _, rspX := _, rspY := _, rspZ := _, phase := _ }) h rfl rfl rfl

/-! The completions. -/

section
variable {s : State} {op : BusOp} {d : List Byte}

theorem inv_writeDone (hs : Inv s) (hp : s.phase = .wFrame) (hop : s.busOp = some op)
    (hl : d.length = replyLength op) : Inv (writeDone op d s) := by
  have h := midStep_endTransaction hs (by simp [hp]) (by simp [hp]) hop hl
  exact inv_respond (s := { (s.endTransaction op d).commitFrame with rspStatus := _, rspLen := _, phase := _ })
    (midStep_commitFrame h) rfl rfl rfl

theorem inv_respondData {len : Size} (h : MidStep s true .released) : Inv (s.respondData len d) :=
  inv_respond (s := { s with rspStatus := _, rspLen := _, rspData := _, phase := _ }) h rfl rfl rfl

theorem inv_readAddrDone (hs : Inv s) (hp : s.phase = .rAddr) (hop : s.busOp = some op)
    (hl : d.length = replyLength op) : Inv (readAddrDone op d s) := by
  have hi : s.phase ≠ .idle := by simp [hp]
  have hr : s.phase ≠ .resp := by simp [hp]
  unfold readAddrDone
  split
  next => exact inv_respondData (midStep_endTransaction hs hi hr hop hl)
  next hsize =>
    have hpos : 1 ≤ s.curSize.toNat := Nat.one_le_iff_ne_zero.2 (by simpa [BitVec.toNat_eq] using hsize)
    have hmax : s.curSize.toNat ≤ Config.maxRead := Nat.le_of_lt_succ s.curSize.isLt
    obtain rfl : op = .tx [addrByte s.curAddr] := by
      simpa [channelMatchesPhase, hp, hop] using hs.channel
    refine inv_issue (midStep_retire hs hi hr hop hl) nofun nofun (next_sent_issue ?_) ⟨rfl, hpos⟩
    simp [continuesTransaction, hpos, hmax]

/-- R_DATA and B_DATA end alike: the received bytes go to `rxbuf` and `rsp_data` (R85, R87). -/
theorem inv_receiveDone (len : Size) (hs : Inv s) (hi : s.phase ≠ .idle) (hr : s.phase ≠ .resp)
    (hop : s.busOp = some op) (hl : d.length = replyLength op) :
    Inv ((State.endTransaction { s with rxbuf := overlay d s.rxbuf } op d).respondData len d) :=
  inv_respondData (midStep_endTransaction (inv_of_unconstrained_fields hs hs.device) hi hr hop hl)

theorem inv_burstCmdDone (hs : Inv s) (hp : s.phase = .bCmd) (hop : s.busOp = some op)
    (hl : d.length = replyLength op) : Inv (burstCmdDone op d s) := by
  obtain rfl : op = .tx [s.burstCmd] := by
    simpa [channelMatchesPhase, hp, hop] using hs.channel
  have hsent := midStep_retire hs (by simp [hp]) (by simp [hp]) hop hl
  have hissue : Inv ((s.retire (.tx [s.burstCmd]) d).issue .bData (.xfer (filler s))) :=
    inv_issue hsent nofun nofun (next_sent_issue (by simp [continuesTransaction])) ⟨_, rfl, filler_length s⟩
  exact inv_of_unconstrained_fields hissue hissue.device

end

theorem inv_onDone {d : List Byte} {s t : State} (hs : Inv s) (h : onDone d s = .next t) : Inv t := by
  obtain ⟨op, hop, hl, ⟨hp, rfl⟩ | ⟨hp, rfl⟩ | ⟨hp, rfl⟩ | ⟨hp, rfl⟩ | ⟨hp, rfl⟩⟩ := onDone_cases h
  · exact inv_writeDone hs hp hop hl
  · exact inv_readAddrDone hs hp hop hl
  · exact inv_receiveDone _ hs (by simp [hp]) (by simp [hp]) hop hl
  · exact inv_burstCmdDone hs hp hop hl
  · exact inv_receiveDone _ hs (by simp [hp]) (by simp [hp]) hop hl

/-! The other things from outside. -/

theorem inv_onTake {s : State} (hs : Inv s) : Inv (onTake s) := by
  by_cases hp : s.phase = .resp
  · obtain ⟨hcs, hop, hfault, -, hdev, hrun⟩ := (inv_iff_of_resp hp).1 hs
    rw [onTake_resp s hp]
    exact (inv_iff_of_idle rfl).2 ⟨hcs, hop, hfault, hdev, by simp [run_append, hrun]⟩
  · rwa [onTake_other s hp]

/-- Whatever the phase, the events of a reset bring the protocol back to its start (R131). -/
theorem run_resetEvents {s : State} (hs : Inv s) :
    Monitor.run .quiet (s.events ++ resetEvents s) = some .quiet := by
  by_cases hi : s.phase = .idle
  · obtain ⟨hcs, -, -, -, hrun⟩ := (inv_iff_of_idle hi).1 hs
    simp [resetEvents, hcs, run_append, hrun]
  by_cases hr : s.phase = .resp
  · obtain ⟨hcs, -, -, -, -, hrun⟩ := (inv_iff_of_resp hr).1 hs
    simp [resetEvents, hcs, run_append, hrun]
  · obtain ⟨op, hop⟩ := exists_busOp_of_waiting hs hi hr
    obtain ⟨hcs, -, -, -, -, hrun⟩ := (inv_iff_of_waiting hi hr hop).1 hs
    simp [resetEvents, hcs, run_append, hrun]

theorem inv_resetBlock {s : State} (hs : Inv s) : Inv s.resetBlock :=
  (inv_iff_of_idle rfl).2 ⟨rfl, rfl, by simp, rfl, run_resetEvents hs⟩

theorem inv_onInput {i : Input} {s t : State} (hs : Inv s) (h : onInput i s = .next t) : Inv t := by
  cases i with
  | present cmd data => cases h; exact inv_of_unconstrained_fields hs hs.device
  | withdraw => cases h; exact inv_of_unconstrained_fields hs hs.device
  | take => cases h; exact inv_onTake hs
  | done d => exact inv_onDone hs h
  | lateDone =>
    obtain rfl := onLateDone_next h
    exact inv_of_unconstrained_fields hs hs.device
  | reset => cases h; exact inv_resetBlock hs
  | devicePowerLoss => cases h; exact inv_of_unconstrained_fields hs rfl

/-- Settles O32: an acceptance starts from a ready block, everything else from the invariant itself. -/
theorem stepKeepsInvariant : Obligations.StepKeepsInvariant := by
  intro s t hs h
  rcases step_cases h with ⟨hready, -, -, h⟩ | ⟨i, rest, -, -, h⟩
  · obtain ⟨hp, hf⟩ := (reqReady_iff s).1 hready
    exact inv_exec (midStep_beginRequest hs hp hf) h
  · exact inv_onInput (inv_of_unconstrained_fields hs hs.device) h

end Sys2Proof.Proofs
end

section
/-! SUPPORT. What a step does to the chip-select line and to `BURST_CMD`, what a completion leaves alone, and the views
of the state. -/

namespace Sys2Proof.Proofs

open Sys2Proof.Machine Sys2Proof.Safety Sys2Proof.Laws

/-! The chip-select line. -/

theorem classify_of_no_fault {cmd : Cmd} (h : faultOf (decode cmd) = none) : classify cmd = .ok (decode cmd) := by
  simp [classify, h]

/-- The requests that open a chip-select window: the three of the bus, when they do not fault (R81). -/
def OpensWindow (i : Instr) : Prop :=
  faultOf i = none ∧ ∃ a n, i = .writeReg a n ∨ i = .readReg a n ∨ i = .readBurst a n

/-- An acceptance leaves `cs_n` alone, or opens a window. -/
theorem exec_csN {i : Instr} {s t : State} (h : exec i s = .next t) :
    t.csN = s.csN ∨
      t.csN = false ∧ OpensWindow i ∧ ∃ op, t.events = s.events ++ [.csAssert, .issue op] := by
  rcases exec_cases h with ⟨c, -, rfl⟩ | ⟨a, n, rfl, hn, rfl⟩ | ⟨a, n, rfl, rfl⟩ | ⟨rfl, rfl⟩ | ⟨-, rfl⟩ | ⟨-, rfl⟩
  · exact .inl rfl
  · have hf : faultOf (.writeReg a n) = none := by simp [faultOf, Config.maxFrame, hn]
    exact .inr ⟨rfl, ⟨hf, a, n, .inl rfl⟩, _, by rw [startWrite_eq]⟩
  · exact .inr ⟨rfl, ⟨rfl, a, n, .inr (.inl rfl)⟩, _, by rw [startRead_eq]⟩
  · exact .inr ⟨rfl, ⟨rfl, _, _, .inr (.inr rfl)⟩, _, by rw [startBurst_eq]⟩
  · exact .inl rfl
  · exact .inl rfl

/-- A completion leaves `cs_n` alone, or ends the window and then answers. -/
theorem onDone_csN {d : List Byte} {s t : State} (h : onDone d s = .next t) :
    t.csN = s.csN ∨ t.csN = true ∧ ∃ op e, s.busOp = some op ∧
      t.events = s.events ++ [doneEvent op d, .csDeassert, e] := by
  obtain ⟨op, hop, -, ⟨-, rfl⟩ | ⟨-, rfl⟩ | ⟨-, rfl⟩ | ⟨-, rfl⟩ | ⟨-, rfl⟩⟩ := onDone_cases h
  · exact .inr ⟨by rw [writeDone_eq], op, _, hop, by rw [writeDone_eq]⟩
  · by_cases hsize : s.curSize = 0#6
    · rw [readAddrDone_zero_eq _ _ _ hsize]
      exact .inr ⟨rfl, op, _, hop, rfl⟩
    · rw [readAddrDone_eq _ _ _ hsize]
      exact .inl rfl
  · exact .inr ⟨rfl, op, _, hop, by rw [readDataDone_eq]⟩
  · exact .inl rfl
  · exact .inr ⟨rfl, op, _, hop, by rw [burstDataDone_eq]⟩

/-- What comes from outside leaves `cs_n` alone, or is a reset or the completion that ends the window. -/
theorem onInput_csN {i : Input} {s t : State} (h : onInput i s = .next t) :
    t.csN = s.csN ∨ t.csN = true ∧ .csDeassert ∈ t.events.drop s.events.length ∧
      (i = .reset ∨ ∃ d op, i = .done d ∧ s.busOp = some op) := by
  cases i with
  | present cmd data => cases h; exact .inl rfl
  | withdraw => cases h; exact .inl rfl
  | take => cases h; exact .inl (onTake_frame s).1
  | done d =>
    refine (onDone_csN h).imp_right ?_
    rintro ⟨hcs, op, e, hop, hev⟩
    exact ⟨hcs, by simp [hev], .inr ⟨d, op, rfl, hop⟩⟩
  | lateDone =>
    obtain rfl := onLateDone_next h
    exact .inl rfl
  | reset =>
    cases h
    rcases resetEvents_cases s with ⟨hcs, -⟩ | ⟨-, hev⟩
    · exact .inl hcs.symm
    · exact .inr ⟨rfl, by simp [hev], .inl rfl⟩
  | devicePowerLoss => cases h; exact .inl rfl

/-- Settles O37: the two edges are an acceptance's and an input's, and neither can make the other's. -/
theorem chipSelectMovesOnlyAtWindowEdges : Obligations.ChipSelectMovesOnlyAtWindowEdges := by
  intro s t h
  rcases step_cases h with ⟨hready, hvalid, -, h⟩ | ⟨i, rest, hi, -, h⟩
  · obtain ⟨hp, hf⟩ := (reqReady_iff s).1 hready
    rcases exec_csN h with hcs | ⟨hlow, ⟨hfault, hbus⟩, op, hev⟩
    · constructor <;> intro hbefore hafter <;> simp [hcs, hbefore] at hafter
    · refine ⟨fun _ _ => ⟨⟨hp, hf, hvalid⟩, by simp [hev], ?_⟩, by simp [hlow]⟩
      simpa [classify_of_no_fault hfault] using hbus
  · rcases onInput_csN h with hcs | ⟨hhigh, hev, hcause⟩
    · constructor <;> intro hbefore hafter <;> simp [hcs, hbefore] at hafter
    · refine ⟨by simp [hhigh], fun _ _ => ⟨hev, ?_⟩⟩
      simpa [hi] using hcause

/-! What a completion leaves alone. -/

/-- What `Obligations.CompletionFrame` says of a completion's two states, apart from what is still to come. -/
structure DoneFrame (s t : State) : Prop where
  faultRecord : t.faulted = s.faulted ∧ t.faultCode = s.faultCode
  requestPort : t.reqValid = s.reqValid ∧ t.reqCmd = s.reqCmd ∧ t.reqData = s.reqData
  counts : t.rspX = s.rspX ∧ t.rspY = s.rspY ∧ t.rspZ = s.rspZ
  requestRegisters : t.frame = s.frame ∧ t.frameLen = s.frameLen ∧ t.curAddr = s.curAddr ∧ t.curSize = s.curSize
  burstCmd : t.burstCmd = s.burstCmd
  outside : t.abandoned = s.abandoned ∧ t.inputs = s.inputs
  received : s.phase ≠ .rData → s.phase ≠ .bData → t.rxbuf = s.rxbuf ∧ t.rspData = s.rspData
  openWindow : t.phase ≠ .resp → t.rspStatus = s.rspStatus ∧ t.rspLen = s.rspLen ∧ t.csN = s.csN
  draws : s.phase ≠ .bCmd → t.draws = s.draws
  device : s.phase ≠ .wFrame → t.device = s.device

theorem onDone_frame {d : List Byte} {s t : State} (h : onDone d s = .next t) : DoneFrame s t := by
  obtain ⟨op, -, -, ⟨hp, rfl⟩ | ⟨hp, rfl⟩ | ⟨hp, rfl⟩ | ⟨hp, rfl⟩ | ⟨hp, rfl⟩⟩ := onDone_cases h
  · rw [writeDone_eq]
    constructor <;> simp [hp]
  · by_cases hsize : s.curSize = 0#6
    · rw [readAddrDone_zero_eq _ _ _ hsize]
      constructor <;> simp
    · rw [readAddrDone_eq _ _ _ hsize]
      constructor <;> simp
  · rw [readDataDone_eq]
    constructor <;> simp [hp]
  · rw [burstCmdDone_eq]
    constructor <;> simp [hp]
  · rw [burstDataDone_eq]
    constructor <;> simp [hp]

/-- Settles O53: the step is the completion itself, in the state whose list of inputs has moved on. -/
theorem completionFrame : Obligations.CompletionFrame := by
  intro s t d rest hi hw h
  rw [step_input hi (.inr hw)] at h
  obtain ⟨⟨hf, hc⟩, ⟨hv, hcmd, hdata⟩, ⟨hx, hy, hz⟩, ⟨hfr, hfl, ha, hn⟩, hb, ⟨hab, hin⟩, hrx, hwin, hdr, hdev⟩ :=
    onDone_frame h
  exact ⟨hf, hc, hv, hcmd, hdata, hx, hy, hz, hfr, hfl, ha, hn, hb, hab, hin, hrx, hwin, hdr,
    fun hp b => congrArg (Memory.read · b) (hdev hp)⟩

/-! `BURST_CMD`. -/

theorem exec_burstCmd {i : Instr} {s t : State} (h : exec i s = .next t) : t.burstCmd = s.burstCmd := by
  rcases exec_cases h with ⟨c, -, rfl⟩ | ⟨a, n, -, -, rfl⟩ | ⟨a, n, -, rfl⟩ | ⟨-, rfl⟩ | ⟨-, rfl⟩ | ⟨-, rfl⟩ <;> rfl

theorem onInput_burstCmd {i : Input} {s t : State} (h : onInput i s = .next t) : t.burstCmd = s.burstCmd := by
  cases i with
  | present cmd data => cases h; rfl
  | withdraw => cases h; rfl
  | take => cases h; exact (onTake_frame s).2
  | done d => exact (onDone_frame h).burstCmd
  | lateDone =>
    obtain rfl := onLateDone_next h
    rfl
  | reset => cases h; rfl
  | devicePowerLoss => cases h; rfl

/-- Settles O52: neither an acceptance nor anything from outside writes it. -/
theorem noStepChangesBurstCommand : Obligations.NoStepChangesBurstCommand := by
  intro s t h
  rcases step_cases h with ⟨-, -, -, h⟩ | ⟨i, rest, -, -, h⟩
  · exact (exec_burstCmd h).trans (beginRequest_burstCmd s)
  · exact (onInput_burstCmd h).trans (setInputs_burstCmd s rest)

/-! The response taken. -/

/-- Settles O26: the step is the take of the presented response. -/
theorem takenResponseLeavesIdle : Obligations.TakenResponseLeavesIdle := by
  intro s rest hp hi
  have hstep : step s = .next ({ (s.setInputs rest).forget with phase := .idle }.record [.take]) := by
    rw [step_busy hi (by simp [hp]), ← onTake_resp (s.setInputs rest) hp]
    rfl
  exact ⟨_, hstep, rfl, rfl, rfl, rfl, rfl, rfl, rfl, rfl, rfl, rfl⟩

/-! The reset state and the views. -/

/-- Settles O30, by evaluation of the reset state. -/
theorem resetStateValues : Obligations.ResetStateValues :=
  ⟨rfl, rfl, rfl, rfl, rfl, rfl, rfl, rfl, rfl⟩

/-- Settles O31: the reset state is idle, its record is empty and nothing is known of the device. -/
theorem resetStateMeetsInvariant : Obligations.ResetStateMeetsInvariant :=
  (inv_iff_of_idle rfl).2 ⟨rfl, rfl, iff_of_true rfl rfl, rfl, rfl⟩

theorem rspValid_iff (s : State) : s.rspValid = true ↔ s.phase = .resp := by
  simp [State.rspValid]

theorem busy_iff (s : State) : s.busy = true ↔ s.phase ≠ .idle := by
  simp [State.busy]

/-- `STATUS`, bit by bit from the low end (R25). -/
theorem status_getLsbD (s : State) (i : Nat) :
    s.status.getLsbD i =
      if i < 1 then (BitVec.ofBool s.busy).getLsbD i
      else if i - 1 < 1 then (BitVec.ofBool s.faulted).getLsbD (i - 1)
      else if i - 1 - 1 < 2 then s.faultCode.getLsbD (i - 1 - 1)
      else (0#4).getLsbD (i - 1 - 1 - 2) := by
  show BitVec.getLsbD (w := 4 + 2 + 1 + 1) (0#4 ++ s.faultCode ++ BitVec.ofBool s.faulted ++ BitVec.ofBool s.busy) i = _
  simp only [BitVec.getLsbD_append]

theorem status_busy_bit (s : State) : s.status.getLsbD 0 = s.busy := by
  rw [status_getLsbD]
  simp

theorem status_faulted_bit (s : State) : s.status.getLsbD 1 = s.faulted := by
  rw [status_getLsbD]
  simp

theorem status_faultCode_bits (s : State) : s.status.extractLsb' 2 2 = s.faultCode := by
  refine BitVec.eq_of_getLsbD_eq fun i hi => ?_
  rw [BitVec.getLsbD_extractLsb', status_getLsbD, if_neg (by omega), if_neg (by omega), if_pos (by omega),
    show 2 + i - 1 - 1 = i by omega]
  simp [hi]

theorem status_high_bits (s : State) : s.status.extractLsb' 4 4 = 0#4 := by
  refine BitVec.eq_of_getLsbD_eq fun i hi => ?_
  rw [BitVec.getLsbD_extractLsb', status_getLsbD, if_neg (by omega), if_neg (by omega), if_neg (by omega)]
  simp

/-- Settles O46, view by view. -/
theorem statusAndHandshakeViews : Obligations.StatusAndHandshakeViews := fun s =>
  ⟨by rw [status_busy_bit, busy_iff], status_faulted_bit s, status_faultCode_bits s, status_high_bits s,
    reqReady_iff s, rspValid_iff s⟩

end Sys2Proof.Proofs
end

section
/-! SUPPORT. The device register space: what a committed write is read back as, which steps change what is known of the
device, and the two bytes of a cycle count. -/

namespace Sys2Proof.Proofs

open Sys2Proof.Machine Sys2Proof.Safety Sys2Proof.Laws

/-! What a write transaction does to the registers (R41). -/

section
variable {m : Memory} {a : DevAddr} {bytes : List Byte}

theorem commit_of_fits (h : a.toNat + bytes.length ≤ 128) : m.commit a bytes = m.writeBytes a.toNat bytes :=
  if_pos h

/-- Past register 0x7F nothing is known any more (D30, I7). -/
theorem commit_of_overrun (h : 128 < a.toNat + bytes.length) : m.commit a bytes = [] :=
  if_neg (Nat.not_le.2 h)

theorem read_commit_inside {i : Nat} {v : Byte} (h : a.toNat + bytes.length ≤ 128) (hv : bytes[i]? = some v) :
    (m.commit a bytes).read (a.toNat + i) = some v := by
  obtain ⟨hi, rfl⟩ := List.getElem?_eq_some_iff.1 hv
  rw [commit_of_fits h, read_writeBytes_inside bytes i hi]

theorem read_commit_outside {b : Nat} (h : a.toNat + bytes.length ≤ 128)
    (hb : b < a.toNat ∨ a.toNat + bytes.length ≤ b) : (m.commit a bytes).read b = m.read b := by
  rw [commit_of_fits h, read_writeBytes_outside bytes hb]

end

/-- Settles O47: a write that fits is `MemWrite`, one that does not leaves nothing known. -/
theorem committedWriteReadsBack : Obligations.CommittedWriteReadsBack := fun _ a bytes =>
  ⟨fun h => ⟨fun _ _ hv => read_commit_inside h hv, fun _ hb => read_commit_outside h hb⟩,
    fun h _ => by rw [commit_of_overrun h]; rfl,
    commit_wf a bytes⟩

/-! Which steps change what is known of the device (R41, R42, R132). -/

/-- No acceptance reaches the device: a write is committed when its window closes. -/
theorem exec_device {i : Instr} {s t : State} (h : exec i s = .next t) : t.device = s.device := by
  rcases exec_cases h with ⟨c, -, rfl⟩ | ⟨a, n, -, -, rfl⟩ | ⟨a, n, -, rfl⟩ | ⟨-, rfl⟩ | ⟨-, rfl⟩ | ⟨-, rfl⟩ <;> rfl

theorem onTake_device (s : State) : (onTake s).device = s.device := by
  by_cases hp : s.phase = .resp
  · rw [onTake_resp s hp]
    rfl
  · rw [onTake_other s hp]

theorem onInput_device {i : Input} {s t : State} (hdone : ∀ d, i = .done d → s.phase ≠ .wFrame)
    (hreset : i ≠ .reset) (hpower : i ≠ .devicePowerLoss) (h : onInput i s = .next t) : t.device = s.device := by
  cases i with
  | present cmd data => cases h; rfl
  | withdraw => cases h; rfl
  | take => cases h; exact onTake_device s
  | done d => exact (onDone_frame h).device (hdone d rfl)
  | lateDone =>
    obtain rfl := onLateDone_next h
    rfl
  | reset => exact absurd rfl hreset
  | devicePowerLoss => exact absurd rfl hpower

/-- The register an address byte names (R61). -/
theorem extractLsb'_addrByte (a : DevAddr) : (addrByte a).extractLsb' 1 7 = a := by
  refine BitVec.eq_of_getLsbD_eq fun i hi => ?_
  show BitVec.getLsbD (BitVec.extractLsb' 1 7 (a ++ 0#1)) i = _
  rw [BitVec.getLsbD_extractLsb', BitVec.getLsbD_append, if_neg (by omega), Nat.add_sub_cancel_left]
  simp [hi]

theorem commitFrame_device {s : State} {a : DevAddr} {bytes : List Byte} (h : sentFrame s = addrByte a :: bytes) :
    s.commitFrame.device = s.device.commit a bytes := by
  simp [State.commitFrame, h, extractLsb'_addrByte]

/-- The completion of a write commits the frame it sent, all bytes at once (R42). -/
theorem onDone_wFrame_device {s t : State} {a : DevAddr} {d bytes : List Byte} (hp : s.phase = .wFrame)
    (hframe : sentFrame s = addrByte a :: bytes) (h : onDone d s = .next t) :
    t.device = s.device.commit a bytes := by
  obtain ⟨op, hop, hl, -⟩ := onDone_cases h
  rw [onDone_wFrame hop hl hp] at h
  cases h
  exact commitFrame_device (s := s.endTransaction op d) hframe

/-- A block that waits in a phase takes the completion that comes next. -/
theorem onDone_of_step {s t : State} {d : List Byte} (hp : s.phase ≠ .idle) (hi : s.inputs.head? = some (.done d))
    (h : step s = .next t) : ∃ rest, onDone d (s.setInputs rest) = .next t := by
  obtain ⟨rest, hi⟩ := List.head?_eq_some_iff.1 hi
  rw [step_busy hi hp] at h
  exact ⟨rest, h⟩

/-- Settles O48: of the moves of a step only the three named inputs reach the device, and the first of them commits. -/
theorem deviceChangesOnlyAtWriteDeassert : Obligations.DeviceChangesOnlyAtWriteDeassert := by
  intro s t h
  constructor
  · intro hdone hreset hpower
    rcases step_cases h with ⟨-, -, -, h⟩ | ⟨i, rest, hi, -, h⟩
    · exact (exec_device h).trans (beginRequest_device s)
    · simp only [hi, List.head?_cons, ne_eq, Option.some.injEq] at hdone hreset hpower
      exact onInput_device (s := s.setInputs rest) (fun d hd hp => hdone ⟨hp, d, hd⟩) hreset hpower h
  · intro d a bytes hp hi hframe
    obtain ⟨rest, h⟩ := onDone_of_step (by simp [hp]) hi h
    exact onDone_wFrame_device (s := s.setInputs rest) hp hframe h

/-! The cycle count (R47, R52, R73). -/

/-- The high and the low byte of a count reassemble to it (R47). -/
theorem cycleCountOf_extract (c : BitVec 16) : cycleCountOf (c.extractLsb' 8 8) (c.extractLsb' 0 8) = c := by
  refine BitVec.eq_of_getLsbD_eq fun i hi => ?_
  by_cases h : i < 8
  · simp [cycleCountOf, h, hi]
  · have hlow : i - 8 < 8 := by omega
    have hsum : 8 + (i - 8) = i := by omega
    simp [cycleCountOf, h, hi, hlow, hsum]

/-- The six bytes are the high and the low byte in turn, once per axis (R73). -/
theorem cycleCountBytes_getElem? (c : BitVec 16) {i : Nat} (hi : i < 6) :
    (cycleCountBytes c)[i]? = some (if i % 2 = 0 then c.extractLsb' 8 8 else c.extractLsb' 0 8) := by
  interval_cases i <;> rfl

theorem read_commit_cycleCount {first : DevAddr} {m : Memory} (c : BitVec 16) {i : Nat}
    (h : first.toNat + 6 ≤ 128) (hi : i < 6) :
    (m.commit first (cycleCountBytes c)).read (first.toNat + i) =
      some (if i % 2 = 0 then c.extractLsb' 8 8 else c.extractLsb' 0 8) :=
  read_commit_inside h (cycleCountBytes_getElem? c hi)

/-- The completion of a one-byte read answers the byte received (R85). -/
theorem onDone_rData_rspBytes {s t : State} {v : Byte} (hp : s.phase = .rData) (hsize : s.curSize = 1#6)
    (h : onDone [v] s = .next t) : t.rspBytes = [v] := by
  obtain ⟨op, hop, hl, -⟩ := onDone_cases h
  rw [onDone_rData hop hl hp] at h
  cases h
  rw [readDataDone_eq, hsize]
  exact frontBytes_overlay [v] s.rspData (by simp)

/-- Settles O49: the registers hold the bytes in turn, and the constraint of R44 makes the answer the one held. -/
theorem cycleCountRoundTrip : Obligations.CycleCountRoundTrip := by
  intro first c m hfit
  refine ⟨c.extractLsb' 8 8, c.extractLsb' 0 8, cycleCountOf_extract c, fun axis haxis => ⟨?_, ?_⟩, ?_⟩
  · simpa using read_commit_cycleCount (m := m) c hfit (show 2 * axis < 6 by omega)
  · simpa [Nat.add_assoc, Nat.add_mod] using read_commit_cycleCount (m := m) c hfit (show 2 * axis + 1 < 6 by omega)
  · intro s t d i hi hdev hp hsize haddr hinput hanswer h
    have hheld : s.device.read s.curAddr.toNat =
        some (if i % 2 = 0 then c.extractLsb' 8 8 else c.extractLsb' 0 8) := by
      rw [hdev, haddr, read_commit_cycleCount c hfit hi]
    obtain rfl := hanswer i _ hi hp hsize haddr hheld
    obtain ⟨rest, h⟩ := onDone_of_step (by simp [hp]) hinput h
    exact onDone_rData_rspBytes (s := s.setInputs rest) hp hsize h

end Sys2Proof.Proofs
end

section
/-! SUPPORT. The command word: its fields in plain arithmetic, the word put together from its fields, and the request
each opcode decodes to. -/

namespace Sys2Proof.Proofs

open Sys2Proof.Laws

/-! The fields of a word in plain arithmetic (R66). -/

theorem opField_toNat (cmd : Cmd) : (opField cmd).toNat = cmd.toNat % 8 := by
  simp [opField, BitVec.extractLsb'_toNat]

theorem addrField_toNat (cmd : Cmd) : (addrField cmd).toNat = cmd.toNat / 8 % 128 := by
  simp [addrField, BitVec.extractLsb'_toNat, Nat.shiftRight_eq_div_pow]

theorem sizeField_toNat (cmd : Cmd) : (sizeField cmd).toNat = cmd.toNat / 1024 := by
  have hfit : cmd.toNat / 1024 < 64 := by omega
  simp [sizeField, BitVec.extractLsb'_toNat, Nat.shiftRight_eq_div_pow, Nat.mod_eq_of_lt hfit]

theorem restField_toNat (cmd : Cmd) : (restField cmd).toNat = cmd.toNat / 8 := by
  have hfit : cmd.toNat / 8 < 8192 := by omega
  simp [restField, BitVec.extractLsb'_toNat, Nat.shiftRight_eq_div_pow, Nat.mod_eq_of_lt hfit]

/-! A word put together from its fields. -/

theorem rest_append_op_toNat (rest : BitVec 13) (op : BitVec 3) : (rest ++ op).toNat = rest.toNat * 8 + op.toNat := by
  rw [BitVec.toNat_append, ← Nat.shiftLeft_add_eq_or_of_lt op.isLt, Nat.shiftLeft_eq]

theorem requestWord_toNat (size : Size) (addr : DevAddr) (op : BitVec 3) :
    (requestWord size addr op).toNat = size.toNat * 1024 + addr.toNat * 8 + op.toNat := by
  rw [requestWord, rest_append_op_toNat, BitVec.toNat_append, ← Nat.shiftLeft_add_eq_or_of_lt addr.isLt,
    Nat.shiftLeft_eq]
  omega

@[simp] theorem opField_rest_append (rest : BitVec 13) (op : BitVec 3) : opField (rest ++ op) = op := by
  apply BitVec.eq_of_toNat_eq
  rw [opField_toNat, rest_append_op_toNat]
  omega

@[simp] theorem restField_rest_append (rest : BitVec 13) (op : BitVec 3) : restField (rest ++ op) = rest := by
  apply BitVec.eq_of_toNat_eq
  rw [restField_toNat, rest_append_op_toNat]
  omega

/-- The three fields are the whole word (R66). -/
theorem requestWord_of_fields {cmd : Cmd} {op : BitVec 3} (h : opField cmd = op) :
    requestWord (sizeField cmd) (addrField cmd) op = cmd := by
  apply BitVec.eq_of_toNat_eq
  rw [← h, requestWord_toNat, sizeField_toNat, addrField_toNat, opField_toNat]
  omega

theorem rest_append_op_of_fields {cmd : Cmd} {op : BitVec 3} (h : opField cmd = op) : restField cmd ++ op = cmd := by
  apply BitVec.eq_of_toNat_eq
  rw [← h, rest_append_op_toNat, restField_toNat, opField_toNat]
  omega

/-- `(SIZE << 10) | (ADDR << 3) | OP` (R66): the fields do not overlap, so no shift loses a bit. -/
theorem requestWord_eq_shifts (size : Size) (addr : DevAddr) (op : BitVec 3) :
    requestWord size addr op = (size.setWidth 16 <<< 10) ||| (addr.setWidth 16 <<< 3) ||| op.setWidth 16 := by
  apply BitVec.eq_of_toNat_eq
  have hsize : (size.setWidth 16 <<< 10).toNat = size.toNat <<< 10 := by
    simp [Nat.shiftLeft_eq]
    omega
  have haddr : (addr.setWidth 16 <<< 3).toNat = addr.toNat <<< 3 := by
    simp [Nat.shiftLeft_eq]
    omega
  have hop : (op.setWidth 16).toNat = op.toNat := BitVec.toNat_setWidth_of_le (by decide)
  rw [BitVec.toNat_or, BitVec.toNat_or, hsize, haddr, hop, requestWord, BitVec.toNat_append, BitVec.toNat_append,
    Nat.shiftLeft_or_distrib, ← Nat.shiftLeft_add]

/-! Decoding by opcode (R68). -/

/-- The eight opcodes, each with the request its words decode to. -/
theorem decode_cases (cmd : Cmd) :
    (opField cmd = 0#3 ∧ decode cmd = .writeReg (addrField cmd) (sizeField cmd)) ∨
    (opField cmd = 1#3 ∧ decode cmd = .readReg (addrField cmd) (sizeField cmd)) ∨
    (opField cmd = 2#3 ∧ decode cmd = .readBurst (addrField cmd) (sizeField cmd)) ∨
    (opField cmd = 3#3 ∧ decode cmd = .decode24 (addrField cmd) (sizeField cmd)) ∨
    (opField cmd = 4#3 ∧ decode cmd = .decodeWindow (addrField cmd) (sizeField cmd)) ∨
    (opField cmd = 5#3 ∧ decode cmd = .reservedOp5 (restField cmd)) ∨
    (opField cmd = 6#3 ∧ decode cmd = .reservedOp6 (restField cmd)) ∨
    (opField cmd = 7#3 ∧ decode cmd = .reservedOp7 (restField cmd)) := by
  have hop : ∀ op : BitVec 3,
      op = 0#3 ∨ op = 1#3 ∨ op = 2#3 ∨ op = 3#3 ∨ op = 4#3 ∨ op = 5#3 ∨ op = 6#3 ∨ op = 7#3 := by decide
  rcases hop (opField cmd) with h | h | h | h | h | h | h | h <;> simp [decode, h]

/-- Settles O1: the OP of the encoded word selects the request's own row, and each field is read back. -/
theorem decodeEncodeRoundTrip : Obligations.DecodeEncodeRoundTrip := by
  intro i
  cases i with
  | writeReg a n => simp [encode, decode]
  | readReg a n => simp [encode, decode]
  | readBurst a n => simp [encode, decode]
  | decode24 a n => simp [encode, decode]
  | decodeWindow a n => simp [encode, decode]
  | reservedOp5 r => simp [encode, decode]
  | reservedOp6 r => simp [encode, decode]
  | reservedOp7 r => simp [encode, decode]

/-- Settles O2: a decoded request carries every field of its word, and its row gives the OP back. -/
theorem encodeDecodeRoundTrip : Obligations.EncodeDecodeRoundTrip := by
  intro cmd
  rcases decode_cases cmd with ⟨hop, h⟩ | ⟨hop, h⟩ | ⟨hop, h⟩ | ⟨hop, h⟩ | ⟨hop, h⟩ | ⟨hop, h⟩ | ⟨hop, h⟩ | ⟨hop, h⟩
  · rw [h, encode, requestWord_of_fields hop]
  · rw [h, encode, requestWord_of_fields hop]
  · rw [h, encode, requestWord_of_fields hop]
  · rw [h, encode, requestWord_of_fields hop]
  · rw [h, encode, requestWord_of_fields hop]
  · rw [h, encode, rest_append_op_of_fields hop]
  · rw [h, encode, rest_append_op_of_fields hop]
  · rw [h, encode, rest_append_op_of_fields hop]

/-- Settles O3, field by field and form by form. -/
theorem commandWordFields : Obligations.CommandWordFields :=
  ⟨fun cmd => ⟨opField_toNat cmd, addrField_toNat cmd, sizeField_toNat cmd⟩, fun a n =>
    ⟨requestWord_eq_shifts n a 0#3, requestWord_eq_shifts n a 1#3, rfl, rfl, rfl⟩⟩

end Sys2Proof.Proofs
end

section
/-! SUPPORT. The two outcomes of a command word and the patterns of the opcode map. -/

namespace Sys2Proof.Proofs

open Sys2Proof.Laws

section
variable {cmd : Cmd}

/-! The two outcomes of a word (R70). -/

theorem classify_of_fault {c : FaultCode} (h : faultOf (decode cmd) = some c) : classify cmd = .error c := by
  simp [classify, h]

theorem classify_eq_error_iff {c : FaultCode} : classify cmd = .error c ↔ faultOf (decode cmd) = some c := by
  refine ⟨fun h => ?_, classify_of_fault⟩
  cases hf : faultOf (decode cmd) with
  | none => simp [classify_of_no_fault hf] at h
  | some c' => simpa [classify_of_fault hf] using h

theorem reservedFieldFault_zero : reservedFieldFault 0#7 0#6 = none := rfl

theorem reservedFieldFault_of_nonzero {a : DevAddr} {n : Size} (h : a ≠ 0#7 ∨ n ≠ 0#6) :
    reservedFieldFault a n = some .reservedField :=
  if_neg (not_and_or.2 h)

/-- A request that must have zero fields (R69 item 2): RESERVED_FIELD, or the request with both fields 0. -/
theorem classify_of_reserved_fields {request : DevAddr → Size → Instr}
    (hfault : ∀ a n, faultOf (request a n) = reservedFieldFault a n)
    (h : decode cmd = request (addrField cmd) (sizeField cmd)) :
    classify cmd =
      if (addrField cmd).toNat ≠ 0 ∨ (sizeField cmd).toNat ≠ 0 then .error .reservedField
      else .ok (request 0#7 0#6) := by
  by_cases hz : addrField cmd = 0#7 ∧ sizeField cmd = 0#6
  · obtain ⟨ha, hn⟩ := hz
    rw [ha, hn] at h
    rw [classify_of_no_fault (by rw [h, hfault, reservedFieldFault_zero]), h, ha, hn, if_neg (by simp)]
  · rw [not_and_or] at hz
    rw [classify_of_fault (by rw [h, hfault, reservedFieldFault_of_nonzero hz]), if_pos]
    simpa [BitVec.toNat_eq] using hz

/-- Settles O4: opcode by opcode; only WRITE_REG and the three requests with reserved fields have two outcomes. -/
theorem decodeSelectsOneOutcome : Obligations.DecodeSelectsOneOutcome := by
  rintro cmd _ _ _ rfl rfl rfl
  rw [← opField_toNat, ← addrField_toNat, ← sizeField_toNat]
  rcases decode_cases cmd with ⟨hop, h⟩ | ⟨hop, h⟩ | ⟨hop, h⟩ | ⟨hop, h⟩ | ⟨hop, h⟩ | ⟨hop, h⟩ | ⟨hop, h⟩ | ⟨hop, h⟩
  · by_cases hlong : 32 ≤ (sizeField cmd).toNat
    · have hfault : faultOf (decode cmd) = some .frameTooLong := by simp [h, faultOf, Config.maxFrame, hlong]
      simp [classify_of_fault hfault, hop, hlong]
    · have hfault : faultOf (decode cmd) = none := by
        simp [h, faultOf, Config.maxFrame]
        omega
      simp [classify_of_no_fault hfault, h, hop, hlong]
  · have hfault : faultOf (decode cmd) = none := by rw [h]; rfl
    simp [classify_of_no_fault hfault, h, hop]
  · simp [classify_of_reserved_fields (fun _ _ => rfl) h, hop]
  · simp [classify_of_reserved_fields (fun _ _ => rfl) h, hop]
  · simp [classify_of_reserved_fields (fun _ _ => rfl) h, hop]
  · simp [classify_of_fault (c := .illegalOp) (by rw [h]; rfl), hop]
  · simp [classify_of_fault (c := .illegalOp) (by rw [h]; rfl), hop]
  · simp [classify_of_fault (c := .illegalOp) (by rw [h]; rfl), hop]

/-! The opcode map (R68). -/

/-- A row whose mask keeps OP fits only words of its own OP. -/
theorem opField_of_rowMatches {row : OpcodeRow} (hmask : opField row.mask = 7#3) (h : rowMatches row cmd = true) :
    opField cmd = opField row.bits := by
  have hbits : cmd &&& row.mask = row.bits := by simpa [rowMatches] using h
  calc opField cmd = opField cmd &&& BitVec.allOnes 3 := BitVec.and_allOnes.symm
    _ = opField cmd &&& opField row.mask := by rw [hmask]; rfl
    _ = opField row.bits := by rw [← hbits, opField, opField, opField, BitVec.extractLsb'_and]

theorem opcodeTable_mask : ∀ row ∈ opcodeTable, opField row.mask = 7#3 := by decide

theorem opcodeTable_opField_distinct :
    ∀ op : BitVec 3, (opcodeTable.filter fun row => decide (op = opField row.bits)).length ≤ 1 := by decide

theorem opcodeTable_mnemonic : ∀ row ∈ opcodeTable, row.mnemonic = mnemonicOf (decode row.bits) := by decide

/-- The mnemonic of a word is its OP's. -/
theorem mnemonicOf_decode_of_opField {cmd' : Cmd} (h : opField cmd = opField cmd') :
    mnemonicOf (decode cmd) = mnemonicOf (decode cmd') := by
  unfold decode
  rw [h]
  split_ifs <;> rfl

/-- A row whose mask keeps OP alone fits the words of its OP. -/
theorem rowMatches_opMask {name : String} (op : BitVec 3) :
    rowMatches ⟨name, requestWord 0#6 0#7 op, 0x0007#16⟩ cmd = true ↔ opField cmd = op := by
  constructor
  · intro h
    simpa using opField_of_rowMatches rfl h
  · rintro rfl
    have hlow : cmd.toNat &&& 7 = cmd.toNat % 8 := Nat.and_two_pow_sub_one_eq_mod cmd.toNat 3
    have hword : cmd &&& 0x0007#16 = requestWord 0#6 0#7 (opField cmd) := by
      apply BitVec.eq_of_toNat_eq
      rw [BitVec.toNat_and, requestWord_toNat, opField_toNat]
      simpa using hlow
    simpa [rowMatches] using hword

/-- A row whose mask keeps the whole word fits one word only. -/
theorem rowMatches_wordMask {name : String} (op : BitVec 3) :
    rowMatches ⟨name, requestWord 0#6 0#7 op, 0xFFFF#16⟩ cmd = true ↔
      opField cmd = op ∧ addrField cmd = 0#7 ∧ sizeField cmd = 0#6 := by
  have hmask : cmd &&& 0xFFFF#16 = cmd := BitVec.and_allOnes
  simp only [rowMatches, hmask, beq_iff_eq]
  constructor
  · rintro rfl
    simp
  · rintro ⟨hop, ha, hn⟩
    rw [← requestWord_of_fields hop, ha, hn]

/-- The words of the three requests with reserved fields, where these are not both 0 (R69 item 2). -/
def ReservedFieldNonzero (cmd : Cmd) : Prop :=
  (opField cmd = 2#3 ∨ opField cmd = 3#3 ∨ opField cmd = 4#3) ∧ ¬ (addrField cmd = 0#7 ∧ sizeField cmd = 0#6)

/-- No row fits such a word, and every other word has one. -/
theorem no_rowMatches_iff : (∀ row ∈ opcodeTable, rowMatches row cmd = false) ↔ ReservedFieldNonzero cmd := by
  have hrows : (∀ row ∈ opcodeTable, rowMatches row cmd = false) ↔
      opField cmd ≠ 0#3 ∧ opField cmd ≠ 1#3 ∧
      ¬ (opField cmd = 2#3 ∧ addrField cmd = 0#7 ∧ sizeField cmd = 0#6) ∧
      ¬ (opField cmd = 3#3 ∧ addrField cmd = 0#7 ∧ sizeField cmd = 0#6) ∧
      ¬ (opField cmd = 4#3 ∧ addrField cmd = 0#7 ∧ sizeField cmd = 0#6) ∧
      opField cmd ≠ 5#3 ∧ opField cmd ≠ 6#3 ∧ opField cmd ≠ 7#3 := by
    simp only [opcodeTable, List.forall_mem_cons, List.not_mem_nil, false_imp_iff, implies_true, and_true,
      ← Bool.not_eq_true]
    exact and_congr (not_congr (rowMatches_opMask 0#3)) <| and_congr (not_congr (rowMatches_opMask 1#3)) <|
      and_congr (not_congr (rowMatches_wordMask 2#3)) <| and_congr (not_congr (rowMatches_wordMask 3#3)) <|
      and_congr (not_congr (rowMatches_wordMask 4#3)) <| and_congr (not_congr (rowMatches_opMask 5#3)) <|
      and_congr (not_congr (rowMatches_opMask 6#3)) (not_congr (rowMatches_opMask 7#3))
  rw [hrows]
  rcases decode_cases cmd with ⟨hop, -⟩ | ⟨hop, -⟩ | ⟨hop, -⟩ | ⟨hop, -⟩ | ⟨hop, -⟩ | ⟨hop, -⟩ | ⟨hop, -⟩ | ⟨hop, -⟩ <;>
    simp [ReservedFieldNonzero, hop]

theorem classify_reservedField_iff : classify cmd = .error .reservedField ↔ ReservedFieldNonzero cmd := by
  rw [classify_eq_error_iff]
  rcases decode_cases cmd with ⟨hop, h⟩ | ⟨hop, h⟩ | ⟨hop, h⟩ | ⟨hop, h⟩ | ⟨hop, h⟩ | ⟨hop, h⟩ | ⟨hop, h⟩ | ⟨hop, h⟩ <;>
    simp [ReservedFieldNonzero, hop, h, faultOf, reservedFieldFault]

end

/-- Settles O5: a row fits only words of its own OP, and no two rows share an OP. -/
theorem opcodeRowsPartitionTheWords : Obligations.OpcodeRowsPartitionTheWords := by
  intro cmd
  have hop {row : OpcodeRow} (hrow : row ∈ opcodeTable) (h : rowMatches row cmd = true) :
      opField cmd = opField row.bits := opField_of_rowMatches (opcodeTable_mask row hrow) h
  refine ⟨?_, fun row hrow h => ?_, no_rowMatches_iff.trans classify_reservedField_iff.symm⟩
  · refine le_trans ?_ (opcodeTable_opField_distinct (opField cmd))
    rw [← List.countP_eq_length_filter, ← List.countP_eq_length_filter]
    exact List.countP_mono_left fun row hrow h => decide_eq_true (hop hrow h)
  · rw [opcodeTable_mnemonic row hrow, mnemonicOf_decode_of_opField (hop hrow h)]

end Sys2Proof.Proofs
end

section
/-! SUPPORT. What the acceptance of a request shows: the address byte, the faults of ill-formed words, and the bytes of
`req_data` it reads. -/

namespace Sys2Proof.Proofs

open Sys2Proof.Machine Sys2Proof.Laws

/-! The address byte (R61). -/

theorem addrByte_toNat (a : DevAddr) : (addrByte a).toNat = a.toNat * 2 := by
  rw [addrByte, BitVec.toNat_append]
  simp [Nat.shiftLeft_eq]

/-- Bit by bit: a zero below the seven bits of the address. -/
theorem addrByte_getLsbD (a : DevAddr) (i : Nat) :
    (addrByte a).getLsbD i = if i < 1 then (0#1).getLsbD i else a.getLsbD (i - 1) :=
  BitVec.getLsbD_append

theorem addrByte_getLsbD_zero (a : DevAddr) : (addrByte a).getLsbD 0 = false := by
  rw [addrByte_getLsbD]
  simp

theorem addrByte_getLsbD_succ (a : DevAddr) (i : Nat) : (addrByte a).getLsbD (i + 1) = a.getLsbD i := by
  simp [addrByte_getLsbD]

theorem addrByte_eq_shift (a : DevAddr) : addrByte a = (a.setWidth 8 <<< 1) &&& 0xFF#8 := by
  have hmask : (a.setWidth 8 <<< 1) &&& 0xFF#8 = a.setWidth 8 <<< 1 := BitVec.and_allOnes
  rw [hmask]
  apply BitVec.eq_of_toNat_eq
  rw [addrByte_toNat]
  simp [Nat.shiftLeft_eq]
  omega

theorem exec_writeReg_legal {n : Size} (a : DevAddr) (s : State) (h : n.toNat ≤ 31) :
    exec (.writeReg a n) s = .next (startWrite a n s) := by
  have hfault : faultOf (.writeReg a n) = none := by
    simp [faultOf, Config.maxFrame]
    omega
  rw [exec_writeReg, faultOr_run hfault]

theorem startWrite_busOp (a : DevAddr) (n : Size) (s : State) :
    (startWrite a n s).busOp = some (.tx (addrByte a :: payload n s)) := by
  rw [startWrite_eq]
  rfl

/-- Settles O7: the byte's bits, and the transmit each of the two requests issues. -/
theorem addressByteIsShiftedAddress : Obligations.AddressByteIsShiftedAddress := fun a =>
  ⟨addrByte_getLsbD_zero a, fun i _ => addrByte_getLsbD_succ a i, addrByte_eq_shift a,
    fun n s h => ⟨_, _, exec_writeReg_legal a s h, startWrite_busOp a n s⟩,
    fun n s => ⟨_, exec_readReg a n s, by rw [startRead_eq]⟩⟩

/-! The requests that fault (R110, R112). -/

/-- All that fault entry changes (R112). -/
theorem takeFault_eq (s : State) (c : FaultCode) :
    s.takeFault c = { s with
      faulted := true, faultCode := c.bits, rspStatus := c.bits, rspLen := 0#6, phase := .resp,
      events := s.events ++ [.respFault c.bits] } := rfl

/-- Settles O14: each of the three raises RESERVED_FIELD, and takes it in any state. -/
theorem reservedFieldsTakeReservedField : Obligations.ReservedFieldsTakeReservedField := by
  intro a n s hfields i hi
  have hfault : faultOf i = some .reservedField := by
    simp only [List.mem_cons, List.not_mem_nil, or_false] at hi
    rcases hi with rfl | rfl | rfl <;> exact reservedFieldFault_of_nonzero hfields
  rw [exec_fault hfault, takeFault_eq]
  rfl

/-- Settles O13: each of the three raises ILLEGAL_OP, whatever the rest of the word. -/
theorem reservedOpcodesTakeIllegalOp : Obligations.ReservedOpcodesTakeIllegalOp := by
  intro r s i hi
  have hfault : faultOf i = some .illegalOp := by
    simp only [List.mem_cons, List.not_mem_nil, or_false] at hi
    rcases hi with rfl | rfl | rfl <;> rfl
  rw [exec_fault hfault, takeFault_eq]
  rfl

/-! The operand bytes a request reads (R67). -/

/-- Buffers that agree on their first `n` bytes agree on each of them. -/
theorem getElem_of_take_eq {m n : Nat} {data data' : Vector Byte m} (h : data.toList.take n = data'.toList.take n)
    (i : Nat) (hi : i < n) (him : i < m) : data[i] = data'[i] := by
  have hi' : (data.toList.take n)[i]? = (data'.toList.take n)[i]? := by rw [h]
  simpa [List.getElem?_take_of_lt hi, him] using hi'

section
variable {n : Nat} {s : State} {data : Vector Byte 63} (h : data.toList.take n = s.reqData.toList.take n)
include h

theorem laneX_of_take_eq (hn : 3 ≤ n) : laneX { s with reqData := data } = laneX s := by
  simp only [laneX, getElem_of_take_eq h 0 (by omega), getElem_of_take_eq h 1 (by omega),
    getElem_of_take_eq h 2 (by omega)]

theorem laneY_of_take_eq (hn : 6 ≤ n) : laneY { s with reqData := data } = laneY s := by
  simp only [laneY, getElem_of_take_eq h 3 (by omega), getElem_of_take_eq h 4 (by omega),
    getElem_of_take_eq h 5 (by omega)]

theorem laneZ_of_take_eq (hn : 9 ≤ n) : laneZ { s with reqData := data } = laneZ s := by
  simp only [laneZ, getElem_of_take_eq h 6 (by omega), getElem_of_take_eq h 7 (by omega),
    getElem_of_take_eq h 8 (by omega)]

end

/-- A write reads the data port through its payload only. -/
theorem startWrite_of_take_eq {size : Size} {s : State} {data : Vector Byte 63} (a : DevAddr)
    (h : data.toList.take size.toNat = s.reqData.toList.take size.toNat) :
    startWrite a size { s with reqData := data } = { startWrite a size s with reqData := data } := by
  have hframe : writeFrame a size { s with reqData := data } = writeFrame a size s := congrArg (addrByte a :: ·) h
  rw [startWrite_eq, startWrite_eq, hframe]

/-- The acceptance action of a request is the same on data ports that agree on the bytes the request reads. -/
theorem exec_of_take_eq {i : Instr} {s t : State} {data : Vector Byte 63}
    (h : data.toList.take (operandCount i) = s.reqData.toList.take (operandCount i)) (he : exec i s = .next t) :
    exec i { s with reqData := data } = .next { t with reqData := data } := by
  rcases exec_cases he with
    ⟨c, hc, rfl⟩ | ⟨a, n, rfl, hn, rfl⟩ | ⟨a, n, rfl, rfl⟩ | ⟨rfl, rfl⟩ | ⟨rfl, rfl⟩ | ⟨rfl, rfl⟩
  · rw [exec_fault hc]
    rfl
  · rw [exec_writeReg_legal a _ (by omega), startWrite_of_take_eq a h]
  · rw [exec_readReg, startRead_eq, startRead_eq]
  · rw [exec_readBurst, faultOr_run rfl, startBurst_eq, startBurst_eq]
  · rw [exec_decode24, faultOr_run rfl, laneX_of_take_eq h (by decide)]
    rfl
  · rw [exec_decodeWindow, faultOr_run rfl, laneX_of_take_eq h (by decide), laneY_of_take_eq h (by decide),
      laneZ_of_take_eq h (by decide)]
    rfl

/-- Settles O45: the counts by definition, the rest from `exec_of_take_eq`. -/
theorem unreadDataBytesAreIgnored : Obligations.UnreadDataBytesAreIgnored :=
  ⟨fun _ _ _ => ⟨rfl, rfl, rfl, rfl, rfl, rfl, rfl, rfl⟩, fun _ _ _ _ => exec_of_take_eq⟩

end Sys2Proof.Proofs
end

section
/-! SUPPORT. What an assembler emits: legal requests, and the six bytes of a cycle count. -/

namespace Sys2Proof.Proofs

open Sys2Proof.Machine Sys2Proof.Laws

/-! Legal requests (R68, R72). -/

/-- A request is legal exactly when it raises no fault (R68, R110). -/
theorem wellFormed_iff_faultOf_none (i : Instr) : i.wellFormed = true ↔ faultOf i = none := by
  cases i with
  | writeReg a n => exact LegalMeansNoFault.writeReg a n
  | readReg a n => exact LegalMeansNoFault.readReg a n
  | readBurst a n => exact LegalMeansNoFault.readBurst a n
  | decode24 a n => exact LegalMeansNoFault.decode24 a n
  | decodeWindow a n => exact LegalMeansNoFault.decodeWindow a n
  | reservedOp5 r => exact LegalMeansNoFault.reservedOp5 r
  | reservedOp6 r => exact LegalMeansNoFault.reservedOp6 r
  | reservedOp7 r => exact LegalMeansNoFault.reservedOp7 r

/-- A legal request written down: its command word, and as many operand bytes as it reads. -/
def IsLegalRequest (r : AsmRequest) : Prop :=
  ∃ i : Instr, i.wellFormed = true ∧ r.cmd = encode i ∧ r.operands.length = operandCount i

/-- What decoding the command word of a legal request gives (R70). -/
theorem decode_of_isLegalRequest {r : AsmRequest} (h : IsLegalRequest r) :
    (decode r.cmd).wellFormed = true ∧ classify r.cmd = .ok (decode r.cmd) ∧
      r.operands.length = operandCount (decode r.cmd) := by
  obtain ⟨i, hwf, hcmd, hlen⟩ := h
  have hdecode : decode r.cmd = i := by rw [hcmd, decodeEncodeRoundTrip i]
  have hfault : faultOf (decode r.cmd) = none := by rw [hdecode, (wellFormed_iff_faultOf_none i).1 hwf]
  exact ⟨by rw [hdecode, hwf], classify_of_no_fault hfault, by rw [hdecode, hlen]⟩

section
variable {r : AsmRequest} {bytes : List Byte}

theorem size_of_payload {n : Nat} (h : n ≤ 31) : (BitVec.ofNat 6 n).toNat = n := by
  rw [BitVec.toNat_ofNat]
  omega

theorem asmWrite_of_fits (a : DevAddr) (h : bytes.length ≤ 31) :
    asmWrite a bytes = .ok ⟨encode (.writeReg a (BitVec.ofNat 6 bytes.length)), bytes⟩ :=
  if_pos h

theorem isLegalRequest_of_asmWrite {a : DevAddr} (h : asmWrite a bytes = .ok r) : IsLegalRequest r := by
  by_cases hlen : bytes.length ≤ 31
  · rw [asmWrite_of_fits a hlen] at h
    cases h
    have hwf : (Instr.writeReg a (BitVec.ofNat 6 bytes.length)).wellFormed = true :=
      decide_eq_true (by rw [size_of_payload hlen]; exact hlen)
    exact ⟨_, hwf, rfl, (size_of_payload hlen).symm⟩
  · simp [asmWrite, Config.maxWritePayload, Config.maxFrame, hlen] at h

theorem isLegalRequest_of_asmDecode {i : Instr} (hwf : i.wellFormed = true)
    (h : asmDecode i (operandCount i) bytes = .ok r) : IsLegalRequest r := by
  unfold asmDecode at h
  split at h
  · cases h
    exact ⟨i, hwf, rfl, ‹_›⟩
  · cases h

end

/-- Every line an assembler accepts is a legal request (R72, R73). -/
theorem isLegalRequest_of_assemble {line : AsmLine} {r : AsmRequest} (h : assemble line = .ok r) :
    IsLegalRequest r := by
  cases line with
  | wreg a bytes =>
    simp only [assemble] at h
    split at h
    · exact isLegalRequest_of_asmWrite h
    · cases h
    · cases h
  | rreg a count =>
    simp only [assemble] at h
    split at h
    · split at h
      · cases h
        exact ⟨.readReg _ _, rfl, rfl, rfl⟩
      · cases h
    · cases h
  | rburst =>
    cases h
    exact ⟨.readBurst 0#7 0#6, rfl, rfl, rfl⟩
  | dec24 bytes =>
    simp only [assemble] at h
    split at h
    · exact isLegalRequest_of_asmDecode (i := .decode24 0#7 0#6) rfl h
    · cases h
  | decwin bytes =>
    simp only [assemble] at h
    split at h
    · exact isLegalRequest_of_asmDecode (i := .decodeWindow 0#7 0#6) rfl h
    · cases h
  | wcc count =>
    simp only [assemble] at h
    split at h
    · exact isLegalRequest_of_asmWrite h
    · cases h

/-! The words of the accepted lines (R72). -/

theorem asmAddress_of_register {a : AddrArg} (h : addrValue a < 128) :
    asmAddress a = .ok (BitVec.ofNat 7 (addrValue a)) :=
  if_pos h

theorem asmBytes_of_bytes {bytes : List Nat} (h : ∀ b ∈ bytes, b < 256) :
    asmBytes bytes = .ok (bytes.map (BitVec.ofNat 8)) :=
  if_pos (by simpa using h)

theorem assemble_wreg {a : AddrArg} {bytes : List Nat} (ha : addrValue a < 128) (hb : ∀ b ∈ bytes, b < 256) :
    assemble (.wreg a bytes) = asmWrite (BitVec.ofNat 7 (addrValue a)) (bytes.map (BitVec.ofNat 8)) := by
  simp only [assemble, asmAddress_of_register ha, asmBytes_of_bytes hb]

theorem assemble_rreg {a : AddrArg} {n : Nat} (ha : addrValue a < 128) (hn : n ≤ 63) :
    assemble (.rreg a n) = .ok ⟨encode (.readReg (BitVec.ofNat 7 (addrValue a)) (BitVec.ofNat 6 n)), []⟩ := by
  simp only [assemble, asmAddress_of_register ha, Config.maxRead, hn, if_true]

theorem encode_writeReg_toNat {a n : Nat} (ha : a < 128) (hn : n ≤ 31) :
    (encode (.writeReg (BitVec.ofNat 7 a) (BitVec.ofNat 6 n))).toNat = n * 1024 + a * 8 := by
  simp [encode, requestWord_toNat]
  omega

theorem encode_readReg_eq_ofNat {a n : Nat} (ha : a < 128) :
    encode (.readReg (BitVec.ofNat 7 a) (BitVec.ofNat 6 n)) = BitVec.ofNat 16 (n * 1024 + a * 8 + 1) := by
  apply BitVec.eq_of_toNat_eq
  simp [encode, requestWord_toNat]
  omega

/-- Settles O50: `isLegalRequest_of_assemble`, and the words of the two lines in plain arithmetic. -/
theorem assemblerEmitsLegalRequests : Obligations.AssemblerEmitsLegalRequests := by
  refine ⟨fun _ _ h => decode_of_isLegalRequest (isLegalRequest_of_assemble h), fun a bytes ha hb hlen => ?_,
    fun a n ha hn => ?_⟩
  · have hlen' : (bytes.map (BitVec.ofNat 8)).length ≤ 31 := by simpa using hlen
    refine ⟨_, (assemble_wreg (a := .number a) ha hb).trans (asmWrite_of_fits _ hlen'), ?_, rfl⟩
    rw [List.length_map]
    exact encode_writeReg_toNat ha hlen
  · rw [← encode_readReg_eq_ofNat ha]
    exact assemble_rreg (a := .number a) ha hn

/-! The cycle count (R73, C2). -/

theorem cycleCountBytes_ofNat (c : Nat) :
    cycleCountBytes (BitVec.ofNat 16 c) =
      [c / 256, c % 256, c / 256, c % 256, c / 256, c % 256].map (BitVec.ofNat 8) := by
  have hhigh : (BitVec.ofNat 16 c).extractLsb' 8 8 = BitVec.ofNat 8 (c / 256) := by
    apply BitVec.eq_of_toNat_eq
    simp [BitVec.extractLsb'_toNat, Nat.shiftRight_eq_div_pow]
    omega
  have hlow : (BitVec.ofNat 16 c).extractLsb' 0 8 = BitVec.ofNat 8 (c % 256) := by
    apply BitVec.eq_of_toNat_eq
    simp [BitVec.extractLsb'_toNat]
  simp only [cycleCountBytes, hhigh, hlow, List.map_cons, List.map_nil]

/-- Settles O51: both lines are one write of the same six bytes. -/
theorem cycleCountRequestIsOneSixByteWrite : Obligations.CycleCountRequestIsOneSixByteWrite := by
  intro c hc
  have hwcc : assemble (.wcc c) =
      .ok ⟨encode (.writeReg Config.regCcFirst 6#6), cycleCountBytes (BitVec.ofNat 16 c)⟩ := by
    simp only [assemble, hc, if_true]
    rfl
  refine ⟨_, hwcc, decodeEncodeRoundTrip _, ?_, ?_⟩
  · have hhigh : c / 256 < 256 := by omega
    simp [cycleCountBytes_ofNat, Nat.mod_eq_of_lt hhigh]
  · have hreg : addrValue (.named .ccFirst 0) = Config.regCcFirst.toNat := rfl
    have hbytes : ∀ b ∈ [c / 256, c % 256, c / 256, c % 256, c / 256, c % 256], b < 256 := by
      simp
      omega
    rw [assemble_wreg (by rw [hreg]; exact Config.regCcFirst.isLt) hbytes, hreg, BitVec.ofNat_toNat, BitVec.setWidth_eq,
      ← cycleCountBytes_ofNat]
    rfl

end Sys2Proof.Proofs
end

section
/-! SUPPORT. What the three transport requests do and leave alone at acceptance, and that the step of a ready block is
the acceptance of the request presented. -/

namespace Sys2Proof.Proofs

open Sys2Proof.Machine Sys2Proof.Safety Sys2Proof.Laws

/-! The acceptance step (R80). -/

/-- Settles O20: `step_accept`, and a word of 16 bits is placed on the port as it is. -/
theorem stepRunsTheDecodedRequest : Obligations.StepRunsTheDecodedRequest := by
  refine ⟨fun s ⟨hr, hv, hi⟩ => step_accept hr hv hi, fun s w hr hi hw => ?_, fun s =>
    ⟨rfl, rfl, rfl, rfl, rfl, rfl, rfl, rfl, rfl, rfl, rfl, rfl, beginRequest_events s⟩⟩
  have hport : (s.withFetchWord 16 w).reqCmd = BitVec.ofNat 16 w :=
    congrArg (BitVec.ofNat 16) (Nat.mod_eq_of_lt hw)
  rw [← hport]
  exact step_accept hr rfl hi

/-- The acceptance step of the command word of any request. -/
theorem step_of_encode {i : Instr} {s : State} (hs : acceptsNow s) (hcmd : s.reqCmd = encode i) :
    step s = exec i s.beginRequest := by
  rw [stepRunsTheDecodedRequest.1 s hs, hcmd, decodeEncodeRoundTrip i]

/-! WRITE_REG (R83, R84). -/

section
variable {n : Size} (a : DevAddr) (s : State)

theorem startWrite_frameLen_toNat (h : n.toNat ≤ 31) : (startWrite a n s).frameLen.toNat = n.toNat + 1 := by
  rw [startWrite_eq, BitVec.toNat_add]
  exact Nat.mod_eq_of_lt (by simp; omega)

/-- The front of the frame buffer is the frame that is transmitted. -/
theorem take_startWrite_frame (h : n.toNat ≤ 31) :
    (startWrite a n s).frame.toList.take (n.toNat + 1) = writeFrame a n s := by
  rw [← startWrite_frameLen_toNat a s h, ← sentFrame_startWrite a n s (by omega)]
  rfl

theorem faultOf_writeReg_short (h : n.toNat < 32) : faultOf (.writeReg a n) = none := by
  simp [faultOf, Config.maxFrame, h]

theorem faultOf_writeReg_long (h : 32 ≤ n.toNat) : faultOf (.writeReg a n) = some .frameTooLong := by
  simp [faultOf, Config.maxFrame, h]

end

/-- Settles O8: the acceptance is `startWrite`, whose frame buffer holds what it transmits. -/
theorem writeRegStartsItsTransaction : Obligations.WriteRegStartsItsTransaction := fun a n s h =>
  ⟨_, writeFrame a n s, exec_writeReg_legal a s h, rfl, rfl, rfl, startWrite_busOp a n s,
    take_startWrite_frame a s h, startWrite_frameLen_toNat a s h, by rw [startWrite_eq]⟩

/-- Settles O15: past 31 bytes the request raises FRAME_TOO_LONG, up to there it transmits its whole frame. -/
theorem longWriteFaultsAndShortWriteIsNotCut : Obligations.LongWriteFaultsAndShortWriteIsNotCut := by
  intro a n s
  constructor
  · intro hlong
    exact ⟨_, exec_fault (faultOf_writeReg_long a hlong), rfl, rfl, rfl, rfl, rfl, rfl, rfl, takeFault_events s _⟩
  · intro hshort
    have hlen : (writeFrame a n s).length = n.toNat + 1 := writeFrame_length a n s
    exact ⟨_, writeFrame a n s, exec_writeReg_legal a s (by omega), rfl, startWrite_busOp a n s, hlen, by omega⟩

/-! READ_REG and READ_BURST (R85, R87). -/

/-- Settles O9, by what `startRead` is. -/
theorem readRegStartsItsTransaction : Obligations.ReadRegStartsItsTransaction := fun a n s =>
  ⟨_, exec_readReg a n s, rfl, rfl, rfl, rfl, rfl, by rw [startRead_eq]⟩

theorem exec_readBurst_legal (s : State) : exec (.readBurst 0#7 0#6) s = .next (startBurst s) := by
  rw [exec_readBurst, faultOr_run rfl]

/-- Settles O10, by what `startBurst` is. -/
theorem readBurstStartsItsTransaction : Obligations.ReadBurstStartsItsTransaction := fun s =>
  ⟨_, exec_readBurst_legal s, rfl, rfl, rfl, by rw [startBurst_eq]⟩

/-! What they leave alone. -/

/-- What a transport request that does not fault leaves alone, whichever of the three it is. -/
structure TransportFrame (s t : State) : Prop where
  faultRecord : t.faulted = s.faulted ∧ t.faultCode = s.faultCode
  response : t.rspStatus = s.rspStatus ∧ t.rspLen = s.rspLen ∧ t.rspData = s.rspData ∧ t.rspX = s.rspX ∧
    t.rspY = s.rspY ∧ t.rspZ = s.rspZ
  requestPort : t.reqValid = s.reqValid ∧ t.reqCmd = s.reqCmd ∧ t.reqData = s.reqData
  rxbuf : t.rxbuf = s.rxbuf
  burstCmd : t.burstCmd = s.burstCmd
  outside : t.abandoned = s.abandoned ∧ t.inputs = s.inputs ∧ t.draws = s.draws
  device : t.device = s.device

theorem startWrite_frame (a : DevAddr) (n : Size) (s : State) : TransportFrame s (startWrite a n s) := by
  rw [startWrite_eq]
  constructor <;> simp

theorem startRead_frame (a : DevAddr) (n : Size) (s : State) : TransportFrame s (startRead a n s) := by
  rw [startRead_eq]
  constructor <;> simp

theorem startBurst_frame (s : State) : TransportFrame s (startBurst s) := by
  rw [startBurst_eq]
  constructor <;> simp

/-- A transport request that does not fault is one of the three transactions' starts. -/
theorem exec_transport_cases {a : DevAddr} {n : Size} {i : Instr} {s t : State}
    (hi : i ∈ [Instr.writeReg a n, .readReg a n, .readBurst a n]) (hf : faultOf i = none) (h : exec i s = .next t) :
    (i = .writeReg a n ∧ t = startWrite a n s) ∨ (i = .readReg a n ∧ t = startRead a n s) ∨
      (i = .readBurst a n ∧ t = startBurst s) := by
  simp only [List.mem_cons, List.not_mem_nil, or_false] at hi
  rcases hi with rfl | rfl | rfl
  · rw [exec_writeReg, faultOr_run hf] at h
    cases h
    exact .inl ⟨rfl, rfl⟩
  · cases h
    exact .inr (.inl ⟨rfl, rfl⟩)
  · rw [exec_readBurst, faultOr_run hf] at h
    cases h
    exact .inr (.inr ⟨rfl, rfl⟩)

/-- Settles O17: the common frame of the three starts, and the registers each of them has for its own. -/
theorem transportRequestFrame : Obligations.TransportRequestFrame := by
  intro a n s t i hi hf h
  have hcases := exec_transport_cases hi hf h
  have hframe : TransportFrame s t := by
    rcases hcases with ⟨-, rfl⟩ | ⟨-, rfl⟩ | ⟨-, rfl⟩
    · exact startWrite_frame a n s
    · exact startRead_frame a n s
    · exact startBurst_frame s
  have hown : (i ≠ .writeReg a n → t.frame = s.frame ∧ t.frameLen = s.frameLen) ∧
      (i ≠ .readReg a n → t.curAddr = s.curAddr ∧ t.curSize = s.curSize) := by
    rcases hcases with ⟨rfl, rfl⟩ | ⟨rfl, rfl⟩ | ⟨rfl, rfl⟩
    · exact ⟨fun hne => absurd rfl hne, fun _ => ⟨rfl, rfl⟩⟩
    · exact ⟨fun _ => ⟨rfl, rfl⟩, fun hne => absurd rfl hne⟩
    · exact ⟨fun _ => ⟨rfl, rfl⟩, fun _ => ⟨rfl, rfl⟩⟩
  obtain ⟨⟨hfd, hfc⟩, ⟨hst, hlen, hd, hx, hy, hz⟩, ⟨hv, hcmd, hdata⟩, hrx, hb, ⟨hab, hin, hdr⟩, hdev⟩ := hframe
  exact ⟨hfd, hfc, hst, hlen, hd, hx, hy, hz, hv, hcmd, hdata, hrx, hb, hab, hin, hdr,
    fun b => congrArg (Memory.read · b) hdev, hown⟩

end Sys2Proof.Proofs
end

section
/-! SUPPORT. The completions phase by phase, and those that cannot happen. -/

namespace Sys2Proof.Proofs

open Sys2Proof.Machine Sys2Proof.Laws

/-! The bytes received are the response (R85, R87). -/

theorem readDataDone_rspBytes {s : State} {d : List Byte} (op : BusOp) (h : d.length = s.curSize.toNat) :
    (readDataDone op d s).rspBytes = d := by
  have hfit : d.length ≤ 63 := by omega
  rw [readDataDone_eq, State.rspBytes, ← h]
  exact frontBytes_overlay d s.rspData hfit

theorem burstDataDone_rspBytes {s : State} {d : List Byte} (op : BusOp) (h : d.length = 9) :
    (burstDataDone op d s).rspBytes = d := by
  have hlen : (burstDataDone op d s).rspLen.toNat = d.length := h.symm
  rw [State.rspBytes, hlen]
  exact frontBytes_overlay d s.rspData (by omega)

/-! Each phase's completion, as the step takes it (R93). -/

/-- Settles O22: the step is `writeDone`. -/
theorem writeCompletesOnDone : Obligations.WriteCompletesOnDone := by
  intro s bytes rest hp hop hi
  refine ⟨writeDone (.tx bytes) [] (s.setInputs rest), ?_, ?_⟩
  · rw [step_busy hi (by simp [hp])]
    exact onDone_wFrame (s := s.setInputs rest) hop rfl hp
  · rw [writeDone_eq]
    exact ⟨rfl, rfl, rfl, rfl, rfl, rfl, rfl, rfl, rfl⟩

/-- Settles O23: the step is `readAddrDone`, on the size latched at acceptance. -/
theorem readAddressPhaseCompletesOnDone : Obligations.ReadAddressPhaseCompletesOnDone := by
  intro s bytes rest hp hop hi
  have hstep : step s = .next (readAddrDone (.tx bytes) [] (s.setInputs rest)) := by
    rw [step_busy hi (by simp [hp])]
    exact onDone_rAddr (s := s.setInputs rest) hop rfl hp
  by_cases hsize : s.curSize = 0#6
  · rw [readAddrDone_zero_eq _ _ (s.setInputs rest) hsize] at hstep
    exact ⟨_, hstep, rfl, rfl, fun hne => absurd hsize hne, fun _ => ⟨rfl, rfl, rfl, rfl, rfl, rfl⟩⟩
  · rw [readAddrDone_eq _ _ (s.setInputs rest) hsize] at hstep
    exact ⟨_, hstep, rfl, rfl, fun _ => ⟨rfl, rfl, rfl, rfl, rfl⟩, fun he => absurd he hsize⟩

/-- Settles O24: the step is `readDataDone`, which looks at no byte of what was received. -/
theorem readDataPhaseCompletesOnDone : Obligations.ReadDataPhaseCompletesOnDone := by
  intro s d rest hp hop hi hlen
  have hrsp := readDataDone_rspBytes (s := s.setInputs rest) (.rx s.curSize.toNat) hlen
  refine ⟨readDataDone (.rx s.curSize.toNat) d (s.setInputs rest), ?_, ?_⟩
  · rw [step_busy hi (by simp [hp])]
    exact onDone_rData (s := s.setInputs rest) hop hlen hp
  · rw [readDataDone_eq] at hrsp ⊢
    exact ⟨rfl, rfl, rfl, rfl, rfl, hrsp, frontBytes_overlay d s.rxbuf (by omega), rfl, rfl, rfl⟩

/-- Settles O25: the steps are `burstCmdDone`, whose filler has 9 bytes, and `burstDataDone`. -/
theorem burstCompletesOnDone : Obligations.BurstCompletesOnDone := by
  constructor
  · intro s bytes rest hp hop hi
    refine ⟨burstCmdDone (.tx bytes) [] (s.setInputs rest), filler (s.setInputs rest), ?_, filler_length _, ?_⟩
    · rw [step_busy hi (by simp [hp])]
      exact onDone_bCmd (s := s.setInputs rest) hop rfl hp
    · rw [burstCmdDone_eq]
      exact ⟨rfl, rfl, rfl, rfl, rfl, rfl⟩
  · intro s f d rest hp hop hi hf hd
    have hrx : (overlay d s.rxbuf).toList.take 9 = d := by
      rw [← hd]
      exact frontBytes_overlay d s.rxbuf (by omega)
    have hrsp := burstDataDone_rspBytes (s := s.setInputs rest) (.xfer f) hd
    refine ⟨burstDataDone (.xfer f) d (s.setInputs rest), ?_, ?_⟩
    · rw [step_busy hi (by simp [hp])]
      exact onDone_bData (s := s.setInputs rest) hop (hd.trans hf.symm) hp
    · rw [burstDataDone_eq] at hrsp ⊢
      exact ⟨rfl, rfl, rfl, rfl, rfl, hrsp, hrx, rfl, rfl, rfl⟩

/-! The completions that cannot happen (R82, I16). -/

theorem onDone_of_none {s : State} {d : List Byte} (h : s.busOp = none) :
    onDone d s = .refused .completionWithoutOperation := by
  simp [onDone, h]

theorem onDone_of_wrong_length {s : State} {d : List Byte} {op : BusOp} (h : s.busOp = some op)
    (hl : d.length ≠ replyLength op) : onDone d s = .refused .completionLength := by
  simp [onDone, h, hl]

/-- Settles O29: the step is the completion, which `onDone` refuses in each of the three cases. -/
theorem impossibleCompletionIsRefused : Obligations.ImpossibleCompletionIsRefused := by
  intro s d rest hi hw
  have hstep : step s = onDone d (s.setInputs rest) := step_input hi (.inr hw)
  rw [hstep]
  exact ⟨onDone_of_none (s := s.setInputs rest), fun _ => onDone_of_wrong_length (s := s.setInputs rest),
    fun _ => onDone_idle_or_resp (s := s.setInputs rest)⟩

end Sys2Proof.Proofs
end

section
/-! SUPPORT. Every step is a row of the table of R93 or a move of the outside world; what follows for a request that
waits and for the response of a bus request. -/

namespace Sys2Proof.Proofs

open Sys2Proof.Machine Sys2Proof.Safety Sys2Proof.Laws

/-! The rows of acceptance. -/

theorem classify_of_legal {cmd : Cmd} {i : Instr} (h : decode cmd = i) (hf : faultOf i = none) :
    classify cmd = .ok i := by
  subst h
  exact classify_of_no_fault hf

theorem tableRow_of_exec {s t : State} (hs : Accepts s) (h : exec (decode s.reqCmd) s.beginRequest = .next t) :
    TableRow s t := by
  rcases exec_cases h with
    ⟨c, hc, rfl⟩ | ⟨a, n, hi, hn, rfl⟩ | ⟨a, n, hi, rfl⟩ | ⟨hi, rfl⟩ | ⟨hi, rfl⟩ | ⟨hi, rfl⟩
  · exact .acceptFault c hs (classify_of_fault hc) ⟨rfl, rfl, rfl, rfl, rfl, rfl, rfl, by simp⟩
  · refine .acceptWrite a n hs (classify_of_legal hi (faultOf_writeReg_short a hn)) ?_
    rw [sentFrame_startWrite a n _ hn, startWrite_eq]
    exact ⟨rfl, rfl, rfl, rfl, by simp⟩
  · refine .acceptRead a n hs (classify_of_legal hi rfl) ?_
    rw [startRead_eq]
    exact ⟨rfl, rfl, rfl, rfl, rfl, by simp⟩
  · refine .acceptBurst hs (classify_of_legal hi rfl) ?_
    rw [startBurst_eq]
    exact ⟨rfl, rfl, rfl, by simp⟩
  · exact .acceptDecode24 hs (classify_of_legal hi rfl)
      ⟨rfl, rfl, rfl, rfl, rfl, by simp [laneX]⟩
  · exact .acceptDecodeWindow hs (classify_of_legal hi rfl)
      ⟨rfl, rfl, rfl, rfl, rfl, rfl, rfl, by simp [laneX, laneY, laneZ]⟩

/-! The rows of what comes from outside. -/

section
variable {s t : State} {rest : List Input}

theorem tableRow_of_onDone {d : List Byte} (hi : s.inputs = .done d :: rest)
    (h : onDone d (s.setInputs rest) = .next t) : TableRow s t := by
  have hon : s.inputs.head? = some (.done d) := by simp [hi]
  obtain ⟨op, hop, -, ⟨hp, rfl⟩ | ⟨hp, rfl⟩ | ⟨hp, rfl⟩ | ⟨hp, rfl⟩ | ⟨hp, rfl⟩⟩ := onDone_cases h
  · refine .writeDone op d hp hon ?_
    rw [writeDone_eq]
    exact ⟨hop, rfl, rfl, rfl, rfl, rfl, rfl⟩
  · by_cases hsize : s.curSize = 0#6
    · refine .readAddrOnlyDone op d hp hon hsize ?_
      rw [readAddrDone_zero_eq _ _ (s.setInputs rest) hsize]
      exact ⟨hop, rfl, rfl, rfl, rfl, rfl, rfl⟩
    · refine .readAddrDone op d hp hon hsize ?_
      rw [readAddrDone_eq _ _ (s.setInputs rest) hsize]
      exact ⟨hop, rfl, rfl, rfl, rfl⟩
  · refine .readDataDone op d hp hon ?_
    rw [readDataDone_eq]
    exact ⟨hop, rfl, rfl, rfl, rfl, rfl, rfl, rfl, rfl⟩
  · refine .burstCmdDone op d (filler (s.setInputs rest)) hp hon ?_
    rw [burstCmdDone_eq]
    exact ⟨hop, filler_length (s.setInputs rest), rfl, rfl, rfl, rfl⟩
  · refine .burstDataDone op d hp hon ?_
    rw [burstDataDone_eq]
    exact ⟨hop, rfl, rfl, rfl, rfl, rfl, rfl, rfl, rfl⟩

theorem tableRow_or_outsideMoves_of_onInput {i : Input} (hi : s.inputs = i :: rest)
    (h : onInput i (s.setInputs rest) = .next t) : TableRow s t ∨ OutsideMoves s t := by
  cases i with
  | present cmd data => cases h; exact .inr ⟨_, _, _, _, _, _, rfl⟩
  | withdraw => cases h; exact .inr ⟨_, _, _, _, _, _, rfl⟩
  | take =>
    cases h
    by_cases hp : s.phase = .resp
    · rw [onTake_resp (s.setInputs rest) hp]
      exact .inl (.take hp (by simp [hi]) ⟨rfl, rfl, rfl, rfl, rfl, rfl⟩)
    · rw [onTake_other (s.setInputs rest) hp]
      exact .inr ⟨_, _, _, _, _, _, rfl⟩
  | done d => exact .inl (tableRow_of_onDone hi h)
  | lateDone =>
    obtain rfl := onLateDone_next h
    exact .inr ⟨_, _, _, _, _, _, rfl⟩
  | reset => cases h; exact .inl (.reset (by simp [hi]) ⟨rfl, rfl, rfl, rfl, rfl, rfl⟩)
  | devicePowerLoss => cases h; exact .inr ⟨_, _, _, _, _, _, rfl⟩

end

/-- Settles O33: an acceptance or what comes next from outside, each by its own rows. -/
theorem stepFollowsTheStepRelation : Obligations.StepFollowsTheStepRelation := by
  intro s t h
  rcases step_cases h with ⟨hready, hvalid, -, h⟩ | ⟨i, rest, hi, -, h⟩
  · obtain ⟨hp, hf⟩ := (reqReady_iff s).1 hready
    exact .inl (tableRow_of_exec ⟨hp, hf, hvalid⟩ h)
  · exact tableRow_or_outsideMoves_of_onInput hi h

/-! A request that waits (R80). -/

theorem doneEvent_ne_accept (op : BusOp) (d : List Byte) (cmd : Cmd) : doneEvent op d ≠ .accept cmd := by
  cases op <;> nofun

theorem accept_notMem_resetEvents (s : State) (cmd : Cmd) : .accept cmd ∉ resetEvents s := by
  rcases resetEvents_cases s with ⟨-, h⟩ | ⟨-, h⟩ <;> simp [h]

/-- Only the rows of acceptance record one. -/
theorem accepts_of_tableRow {s t : State} {cmd : Cmd} (h : TableRow s t)
    (hcmd : .accept cmd ∈ t.events.drop s.events.length) : Accepts s := by
  have hdone (op : BusOp) (d : List Byte) : Event.accept cmd ≠ doneEvent op d := (doneEvent_ne_accept op d cmd).symm
  cases h with
  | acceptFault c from_ => exact from_
  | acceptWrite a n from_ => exact from_
  | acceptRead a n from_ => exact from_
  | acceptBurst from_ => exact from_
  | acceptDecode24 from_ => exact from_
  | acceptDecodeWindow from_ => exact from_
  | writeDone op d _ _ h => obtain ⟨-, -, -, -, -, -, he⟩ := h; simp [he, hdone] at hcmd
  | readAddrDone op d _ _ _ h => obtain ⟨-, -, -, -, he⟩ := h; simp [he, hdone] at hcmd
  | readAddrOnlyDone op d _ _ _ h => obtain ⟨-, -, -, -, -, -, he⟩ := h; simp [he, hdone] at hcmd
  | readDataDone op d _ _ h => obtain ⟨-, -, -, -, -, -, -, -, he⟩ := h; simp [he, hdone] at hcmd
  | burstCmdDone op d f _ _ h => obtain ⟨-, -, -, -, -, he⟩ := h; simp [he, hdone] at hcmd
  | burstDataDone op d _ _ h => obtain ⟨-, -, -, -, -, -, -, -, he⟩ := h; simp [he, hdone] at hcmd
  | take _ _ h => obtain ⟨-, -, -, -, -, he⟩ := h; simp [he] at hcmd
  | reset _ h => obtain ⟨-, -, -, -, -, he⟩ := h; simp [he, accept_notMem_resetEvents] at hcmd

theorem accepts_of_accept_recorded {s t : State} {cmd : Cmd} (h : step s = .next t)
    (hcmd : .accept cmd ∈ t.events.drop s.events.length) : Accepts s := by
  rcases stepFollowsTheStepRelation s t h with hrow | ⟨_, _, _, _, _, _, rfl⟩
  · exact accepts_of_tableRow hrow hcmd
  · simp at hcmd

theorem onTake_requestPort (s : State) :
    (onTake s).reqValid = s.reqValid ∧ (onTake s).reqCmd = s.reqCmd ∧ (onTake s).reqData = s.reqData := by
  by_cases hp : s.phase = .resp
  · rw [onTake_resp s hp]
    exact ⟨rfl, rfl, rfl⟩
  · rw [onTake_other s hp]
    exact ⟨rfl, rfl, rfl⟩

/-- Only the requester moves its port. -/
theorem onInput_requestPort {i : Input} {s t : State} (hpresent : ∀ cmd data, i ≠ .present cmd data)
    (hwithdraw : i ≠ .withdraw) (h : onInput i s = .next t) :
    t.reqValid = s.reqValid ∧ t.reqCmd = s.reqCmd ∧ t.reqData = s.reqData := by
  cases i with
  | present cmd data => exact absurd rfl (hpresent cmd data)
  | withdraw => exact absurd rfl hwithdraw
  | take => cases h; exact onTake_requestPort s
  | done d => exact (onDone_frame h).requestPort
  | lateDone =>
    obtain rfl := onLateDone_next h
    exact ⟨rfl, rfl, rfl⟩
  | reset => cases h; exact ⟨rfl, rfl, rfl⟩
  | devicePowerLoss => cases h; exact ⟨rfl, rfl, rfl⟩

/-- Settles O21: a block that is not ready takes what comes from outside, and only the requester's own moves reach the
port. -/
theorem presentedRequestWaits : Obligations.PresentedRequestWaits := by
  constructor
  · intro s t hready hvalid h hpresent hwithdraw
    have hport : t.reqValid = s.reqValid ∧ t.reqCmd = s.reqCmd ∧ t.reqData = s.reqData := by
      rcases step_cases h with ⟨hready', -⟩ | ⟨i, rest, hi, -, h⟩
      · simp [hready] at hready'
      · simp only [hi, List.head?_cons, ne_eq, Option.some.injEq] at hpresent hwithdraw
        exact onInput_requestPort (s := s.setInputs rest) hpresent hwithdraw h
    obtain ⟨hv, hc, hd⟩ := hport
    refine ⟨hv.trans hvalid, hc, hd, fun cmd hcmd => ?_⟩
    obtain ⟨hp, hf, -⟩ := accepts_of_accept_recorded h hcmd
    simp [(reqReady_iff s).2 ⟨hp, hf⟩] at hready
  · intro s cmd data rest hready hi
    rw [step_input hi (.inr (.inl hready))]
    rfl

/-! The response of a bus request (R89). -/

theorem deassert_then_response {s t : State} {e₀ e : Event} (h : t.events = s.events ++ [e₀, .csDeassert, e])
    (he : e = .respOk ∨ ∃ d, e = .respData d) :
    ∃ front e, t.events = s.events ++ front ++ [.csDeassert, e] ∧ (e = .respOk ∨ ∃ d, e = .respData d) :=
  ⟨[e₀], e, by rw [h, List.append_cons], he⟩

/-- Settles O38: of the rows that lead from a waiting phase, those into RESP are the ends of the window. -/
theorem responseFollowsDeassert : Obligations.ResponseFollowsDeassert := by
  intro s t h hidle hresp ht
  rcases stepFollowsTheStepRelation s t h with hrow | ⟨_, _, _, _, _, _, rfl⟩
  · cases hrow with
    | acceptFault c from_ => exact absurd from_.1 hidle
    | acceptWrite a n from_ => exact absurd from_.1 hidle
    | acceptRead a n from_ => exact absurd from_.1 hidle
    | acceptBurst from_ => exact absurd from_.1 hidle
    | acceptDecode24 from_ => exact absurd from_.1 hidle
    | acceptDecodeWindow from_ => exact absurd from_.1 hidle
    | writeDone op d _ _ h =>
      obtain ⟨-, -, hcs, hop, hst, -, he⟩ := h
      exact ⟨hcs, hst, hop, deassert_then_response he (.inl rfl)⟩
    | readAddrDone op d _ _ _ h => obtain ⟨-, hp, -⟩ := h; simp [hp] at ht
    | readAddrOnlyDone op d _ _ _ h =>
      obtain ⟨-, -, hcs, hop, hst, -, he⟩ := h
      exact ⟨hcs, hst, hop, deassert_then_response he (.inr ⟨_, rfl⟩)⟩
    | readDataDone op d _ _ h =>
      obtain ⟨-, -, hcs, hop, hst, -, -, -, he⟩ := h
      exact ⟨hcs, hst, hop, deassert_then_response he (.inr ⟨_, rfl⟩)⟩
    | burstCmdDone op d f _ _ h => obtain ⟨-, -, hp, -⟩ := h; simp [hp] at ht
    | burstDataDone op d _ _ h =>
      obtain ⟨-, -, hcs, hop, hst, -, -, -, he⟩ := h
      exact ⟨hcs, hst, hop, deassert_then_response he (.inr ⟨_, rfl⟩)⟩
    | take from_ => exact absurd from_ hresp
    | reset _ h => obtain ⟨hp, -⟩ := h; simp [hp] at ht
  · exact absurd ht hresp

end Sys2Proof.Proofs
end

section
/-! SUPPORT. Whole transport requests (R90): the acceptance step, then the completion of each phase. -/

namespace Sys2Proof.Proofs

open Sys2Proof.Machine Sys2Proof.Safety Sys2Proof.Laws

/-! Runs of two and three steps. -/

theorem runSteps_two {s u t : State} (h₁ : step s = .next u) (h₂ : step u = .next t) : runSteps 2 s = .next t := by
  rw [runSteps_succ 1 h₁, runSteps_succ 0 h₂, runSteps_zero]

theorem runSteps_three {s u v t : State} (h₁ : step s = .next u) (h₂ : step u = .next v) (h₃ : step v = .next t) :
    runSteps 3 s = .next t := by
  rw [runSteps_succ 2 h₁, runSteps_two h₂ h₃]

/-! WRITE_REG (R91). -/

/-- `F[0] = addr << 1`. -/
theorem addrByte_eq_shiftLeft (a : DevAddr) : addrByte a = (a.setWidth 8 : Byte) <<< 1 := by
  rw [addrByte_eq_shift]
  exact BitVec.and_allOnes

/-- `F[i + 1] = payload[i]`. -/
theorem writeFrame_getElem?_succ {n : Size} {i : Nat} (a : DevAddr) (s : State) (h : i < n.toNat) :
    (writeFrame a n s)[i + 1]? = s.reqData[i]? := by
  simp [writeFrame, payload, frontBytes, List.getElem?_take_of_lt h]

/-- Settles O39: the acceptance issues the frame, and `writeCompletesOnDone` ends it. -/
theorem wholeWriteTransaction : Obligations.WholeWriteTransaction := by
  intro s a n rest hs hcmd hn hi
  have hstart : step s = .next (startWrite a n s.beginRequest) := by
    rw [step_of_encode hs hcmd, exec_writeReg_legal a _ hn]
  obtain ⟨t, hdone, hp, hcs, -, hst, hlen, -, hin, -, he⟩ :=
    writeCompletesOnDone (startWrite a n s.beginRequest) _ rest rfl (startWrite_busOp a n _) hi
  have hframe : (writeFrame a n s.beginRequest).length = n.toNat + 1 := writeFrame_length a n _
  refine ⟨t, writeFrame a n s.beginRequest, runSteps_two hstart hdone, hframe, by omega,
    congrArg some (addrByte_eq_shiftLeft a), fun i hi => writeFrame_getElem?_succ a _ hi, hp, hcs, hst, hlen, hin, ?_⟩
  rw [he, startWrite_eq]
  simp

/-! READ_REG (R85, R86). -/

/-- Settles O40: acceptance, address phase and data phase, one after another. -/
theorem wholeReadTransaction : Obligations.WholeReadTransaction := by
  intro s a n d rest hs hcmd hn hd hi
  have hstart : step s = .next (startRead a n s.beginRequest) := by
    rw [step_of_encode hs hcmd, exec_readReg]
  obtain ⟨u, haddr, hin, -, hnext, -⟩ :=
    readAddressPhaseCompletesOnDone (startRead a n s.beginRequest) [addrByte a] _ rfl rfl hi
  obtain ⟨hp, -, hop, hsize, he⟩ := hnext hn
  have hsize : u.curSize = n := hsize
  obtain ⟨t, hdata, hp', hcs, -, hst, hlen, hbytes, -, hin', -, he'⟩ :=
    readDataPhaseCompletesOnDone u d rest hp (by rw [hop, hsize]; rfl) hin (by rw [hsize, hd])
  refine ⟨t, runSteps_three hstart haddr hdata, hp', hcs, hst, hlen.trans hsize, hbytes, hin', ?_⟩
  rw [he', he, startRead_eq]
  simp

/-- Settles O41: acceptance and address phase, which ends the window. -/
theorem readOfSizeZeroHasNoDataPhase : Obligations.ReadOfSizeZeroHasNoDataPhase := by
  intro s a rest hs hcmd hi
  have hstart : step s = .next (startRead a 0#6 s.beginRequest) := by
    rw [step_of_encode hs hcmd, exec_readReg]
  obtain ⟨t, haddr, hin, -, -, hend⟩ :=
    readAddressPhaseCompletesOnDone (startRead a 0#6 s.beginRequest) [addrByte a] rest rfl rfl hi
  obtain ⟨hp, hcs, -, hst, hlen, he⟩ := hend rfl
  refine ⟨t, runSteps_two hstart haddr, hp, hcs, hst, hlen, hin, ?_⟩
  rw [he, startRead_eq]
  simp

/-! READ_BURST (R87, R88). -/

/-- The first half of `Obligations.WholeBurstTransaction`: acceptance, command phase and exchange. -/
theorem runSteps_readBurst {s : State} {d : List Byte} {rest : List Input} (hs : acceptsNow s)
    (hcmd : s.reqCmd = encode (.readBurst 0#7 0#6)) (hd : d.length = 9)
    (hi : s.inputs = .done [] :: .done d :: rest) :
    ∃ t f, runSteps 3 s = .next t ∧ f.length = 9 ∧ t.phase = .resp ∧ t.csN = true ∧ t.rspStatus = 0#2 ∧
      t.rspLen = 9#6 ∧ t.rspBytes = d ∧ t.inputs = rest ∧
      t.events = s.events ++
        [.accept s.reqCmd, .csAssert, .issue (.tx [s.burstCmd]), .done, .issue (.xfer f), .doneData d,
         .csDeassert, .respData d] := by
  have hstart : step s = .next (startBurst s.beginRequest) := by
    rw [step_of_encode hs hcmd, exec_readBurst_legal]
  obtain ⟨u, f, hsent, hf, hp, -, hop, hin, -, he⟩ :=
    burstCompletesOnDone.1 (startBurst s.beginRequest) [s.burstCmd] _ rfl rfl hi
  obtain ⟨t, hdata, hp', hcs, -, hst, hlen, hbytes, -, hin', -, he'⟩ :=
    burstCompletesOnDone.2 u f d rest hp hop hin hf hd
  refine ⟨t, f, runSteps_three hstart hsent hdata, hf, hp', hcs, hst, hlen, hbytes, hin', ?_⟩
  rw [he', he, startBurst_eq]
  simp

/-- Settles O42: the run answers the same phase, level and response from every draw. -/
theorem wholeBurstTransaction : Obligations.WholeBurstTransaction := by
  intro s d rest hs hcmd hd hi
  have hrun := runSteps_readBurst hs hcmd hd hi
  refine ⟨hrun, fun draws t u ht hu => ?_⟩
  obtain ⟨t', _, ht', -, hp, hcs, hst, hlen, hbytes, -⟩ := hrun
  obtain ⟨u', _, hu', -, hp', hcs', hst', hlen', hbytes', -⟩ :=
    runSteps_readBurst (s := { s with draws := draws }) hs hcmd hd hi
  obtain rfl : t' = t := by simpa [ht'] using ht
  obtain rfl : u' = u := by simpa [hu'] using hu
  exact ⟨hp'.trans hp.symm, hcs'.trans hcs.symm, hst'.trans hst.symm, hlen'.trans hlen.symm,
    hbytes'.trans hbytes.symm⟩

end Sys2Proof.Proofs
end

section
/-! SUPPORT. The decoder: its algorithm is sign extension of the 24-bit field, and what the two decoder requests answer,
leave alone and depend on (R100 to R105). -/

namespace Sys2Proof.Proofs

open Sys2Proof.Machine Sys2Proof.Laws

/-! The algorithm for one axis (R100, R101). -/

/-- A byte widened to 32 bits loses nothing when shifted by at most 24. -/
theorem setWidth_shiftLeft_toNat (b : Byte) (k : Nat) (hk : k ≤ 24) :
    (b.setWidth 32 <<< k).toNat = b.toNat <<< k := by
  have hfit : b.toNat * 2 ^ k < 2 ^ 32 :=
    calc b.toNat * 2 ^ k ≤ b.toNat * 2 ^ 24 := Nat.mul_le_mul_left _ (Nat.pow_le_pow_right (by decide) hk)
      _ < 2 ^ 32 := by omega
  rw [BitVec.toNat_shiftLeft, BitVec.toNat_setWidth_of_le (by decide), Nat.shiftLeft_eq, Nat.mod_eq_of_lt hfit]

section
variable (b2 b1 b0 : Byte)

/-- The four shifted bytes do not overlap: the algorithm puts the sign byte in front of the field (R100). -/
theorem decodeAxis_eq_append :
    decodeAxis b2 b1 b0 = (if b2.getLsbD 7 then 0xFF#8 else 0x00#8) ++ axisField b2 b1 b0 := by
  apply BitVec.eq_of_toNat_eq
  have hlow : (b0.setWidth 32).toNat = b0.toNat := BitVec.toNat_setWidth_of_le (by decide)
  simp only [decodeAxis, axisField, BitVec.toNat_or, BitVec.toNat_append, setWidth_shiftLeft_toNat _ 24 (by decide),
    setWidth_shiftLeft_toNat b2 16 (by decide), setWidth_shiftLeft_toNat b1 8 (by decide), hlow,
    Nat.shiftLeft_or_distrib, ← Nat.shiftLeft_add, Nat.or_assoc]

/-- The sign bit of the field is the top bit of its most significant byte, `v24[23] = b2[7]` (R101). -/
theorem axisField_msb : (axisField b2 b1 b0).msb = b2.getLsbD 7 := by
  rw [axisField, BitVec.msb_append, if_neg (by decide), BitVec.msb_append, if_neg (by decide),
    BitVec.msb_eq_getLsbD_last]

/-- The sign byte is eight copies of the field's sign bit (R101). -/
theorem decodeAxis_eq_signExtend : decodeAxis b2 b1 b0 = (axisField b2 b1 b0).signExtend 32 := by
  rw [decodeAxis_eq_append, BitVec.signExtend_eq_append_of_le (by decide), axisField_msb]
  rfl

theorem decodeAxis_toInt : (decodeAxis b2 b1 b0).toInt = (axisField b2 b1 b0).toInt := by
  rw [decodeAxis_eq_signExtend, BitVec.toInt_signExtend_of_le (by decide)]

theorem axisField_toNat :
    (axisField b2 b1 b0).toNat = b2.toNat * 2 ^ 16 + b1.toNat * 2 ^ 8 + b0.toNat := by
  rw [axisField, BitVec.toNat_append, BitVec.toNat_append, ← Nat.shiftLeft_add_eq_or_of_lt b0.isLt,
    ← Nat.shiftLeft_add_eq_or_of_lt b1.isLt, Nat.shiftLeft_eq, Nat.shiftLeft_eq]
  omega

theorem axisField_toInt :
    (axisField b2 b1 b0).toInt =
      (axisField b2 b1 b0).toNat - 2 ^ 24 * (if b2.getLsbD 7 then 1 else 0 : Int) := by
  rw [BitVec.toInt_eq_msb_cond, axisField_msb]
  split <;> simp

end

/-- Settles O43: sign extension keeps the signed value, so the ranges are those of a 24-bit field by its sign bit. -/
theorem decodeIsExactSignExtension : Obligations.DecodeIsExactSignExtension := by
  intro b2 b1 b0
  have hlow : -(2 ^ 23 : Int) ≤ (axisField b2 b1 b0).toInt := BitVec.le_toInt _
  have hhigh : (axisField b2 b1 b0).toInt < 2 ^ 23 := BitVec.toInt_lt
  refine ⟨decodeAxis_eq_signExtend b2 b1 b0, decodeAxis_toInt b2 b1 b0, ?_, axisField_toNat b2 b1 b0,
    fun hset => ?_, fun hclear => ?_⟩ <;> rw [decodeAxis_toInt]
  · exact axisField_toInt b2 b1 b0
  · exact ⟨hlow, Int.le_sub_one_of_lt (BitVec.toInt_neg_of_msb_true ((axisField_msb b2 b1 b0).trans hset))⟩
  · exact ⟨BitVec.toInt_nonneg_of_msb_false ((axisField_msb b2 b1 b0).trans hclear), Int.le_sub_one_of_lt hhigh⟩

/-! The two requests (R100, R102). -/

section
variable (s : State)

theorem exec_decode24_legal : exec (.decode24 0#7 0#6) s = .next (s.respondCount (laneX s)) := by
  rw [exec_decode24, faultOr_run rfl]

theorem exec_decodeWindow_legal :
    exec (.decodeWindow 0#7 0#6) s = .next (s.respondCounts (laneX s) (laneY s) (laneZ s)) := by
  rw [exec_decodeWindow, faultOr_run rfl]

end

/-- Settles O11: the answer is `laneX`, which is a sign extension by `decodeAxis_eq_signExtend`. -/
theorem decode24AnswersTheSignExtendedAxis : Obligations.Decode24AnswersTheSignExtendedAxis := fun s =>
  ⟨_, exec_decode24_legal s, rfl, rfl, decodeAxis_eq_signExtend _ _ _, rfl⟩

/-- Settles O12: each lane is a sign extension by `decodeAxis_eq_signExtend`. -/
theorem decodeWindowAnswersThreeSignExtendedAxes : Obligations.DecodeWindowAnswersThreeSignExtendedAxes := fun s =>
  ⟨_, exec_decodeWindow_legal s, rfl, rfl, decodeAxis_eq_signExtend _ _ _, decodeAxis_eq_signExtend _ _ _,
    decodeAxis_eq_signExtend _ _ _, rfl⟩

/-- Settles O18: either request only responds, and a response writes none of these. -/
theorem decoderRequestFrame : Obligations.DecoderRequestFrame := by
  intro s t i hi h
  simp only [List.mem_cons, List.not_mem_nil, or_false] at hi
  rcases hi with rfl | rfl
  · rw [exec_decode24_legal] at h
    cases h
    simp
  · rw [exec_decodeWindow_legal] at h
    cases h
    simp

/-! What a lane depends on (R105). -/

section
variable {s s' : State}

theorem laneX_congr (h : ∀ i (_ : i < 3), s.reqData[i] = s'.reqData[i]) : laneX s = laneX s' := by
  rw [laneX, h 0 (by decide), h 1 (by decide), h 2 (by decide), laneX]

theorem laneY_congr (h : ∀ i (_ : i < 3), s.reqData[i + 3] = s'.reqData[i + 3]) : laneY s = laneY s' := by
  rw [laneY, h 0 (by decide), h 1 (by decide), h 2 (by decide), laneY]

theorem laneZ_congr (h : ∀ i (_ : i < 3), s.reqData[i + 6] = s'.reqData[i + 6]) : laneZ s = laneZ s' := by
  rw [laneZ, h 0 (by decide), h 1 (by decide), h 2 (by decide), laneZ]

end

/-- Settles O44: what either request answers are the lanes, and each lane reads its own three bytes only. -/
theorem decoderReadsOnlyItsOperands : Obligations.DecoderReadsOnlyItsOperands := by
  intro s s' t t'
  constructor
  · intro h h'
    rw [exec_decodeWindow_legal] at h h'
    cases h
    cases h'
    exact ⟨laneX_congr, laneY_congr, laneZ_congr⟩
  · intro h h'
    rw [exec_decode24_legal] at h h'
    cases h
    cases h'
    exact laneX_congr

end Sys2Proof.Proofs
end

section
/-! SUPPORT. The fault record: what fault entry writes and leaves alone, and that nothing but fault entry and reset
moves it. -/

namespace Sys2Proof.Proofs

open Sys2Proof.Machine Sys2Proof.Safety Sys2Proof.Laws

/-! Fault entry (R111, R112). -/

/-- Settles O16: the acceptance step of such a word is fault entry, in the state after the handshake. -/
theorem faultEntryAtAcceptance : Obligations.FaultEntryAtAcceptance := by
  intro s c hs hword
  have hstep : step s = .next (s.beginRequest.takeFault c) := by
    rw [stepRunsTheDecodedRequest.1 s hs, exec_fault (classify_eq_error_iff.1 hword)]
  exact ⟨_, hstep, rfl, rfl, rfl, rfl, rfl, rfl, rfl, rfl, by simp⟩

/-- Settles O19: the request takes its fault, and fault entry writes none of these. -/
theorem faultingRequestFrame : Obligations.FaultingRequestFrame := by
  intro s t i hi h
  obtain ⟨c, hc⟩ := Option.ne_none_iff_exists'.1 hi
  rw [exec_fault hc] at h
  cases h
  simp

/-! What moves the fault record (R24, R115). -/

/-- The fault record of `t` is that of `s`. -/
def SameFaultRecord (s t : State) : Prop := t.faulted = s.faulted ∧ t.faultCode = s.faultCode

theorem exec_faultRecord {i : Instr} {s t : State} (h : exec i s = .next t) :
    (∃ c, faultOf i = some c ∧ t.faulted = true ∧ t.faultCode = c.bits) ∨ SameFaultRecord s t := by
  rcases exec_cases h with ⟨c, hc, rfl⟩ | ⟨a, n, -, -, rfl⟩ | ⟨a, n, -, rfl⟩ | ⟨-, rfl⟩ | ⟨-, rfl⟩ | ⟨-, rfl⟩
  · exact .inl ⟨c, hc, rfl, rfl⟩
  · exact .inr ⟨rfl, rfl⟩
  · exact .inr ⟨rfl, rfl⟩
  · exact .inr ⟨rfl, rfl⟩
  · exact .inr ⟨rfl, rfl⟩
  · exact .inr ⟨rfl, rfl⟩

theorem onTake_faultRecord (s : State) : SameFaultRecord s (onTake s) := by
  by_cases hp : s.phase = .resp
  · rw [onTake_resp s hp]
    exact ⟨rfl, rfl⟩
  · rw [onTake_other s hp]
    exact ⟨rfl, rfl⟩

theorem onInput_faultRecord {i : Input} {s t : State} (hreset : i ≠ .reset) (h : onInput i s = .next t) :
    SameFaultRecord s t := by
  cases i with
  | present cmd data => cases h; exact ⟨rfl, rfl⟩
  | withdraw => cases h; exact ⟨rfl, rfl⟩
  | take => cases h; exact onTake_faultRecord s
  | done d => exact (onDone_frame h).faultRecord
  | lateDone =>
    obtain rfl := onLateDone_next h
    exact ⟨rfl, rfl⟩
  | reset => exact absurd rfl hreset
  | devicePowerLoss => cases h; exact ⟨rfl, rfl⟩

/-- A step that is not a reset is the acceptance of a word that faults, or leaves the fault record alone. -/
theorem step_faultRecord {s t : State} (h : step s = .next t) (hreset : s.inputs.head? ≠ some .reset) :
    (Accepts s ∧ ∃ c, classify s.reqCmd = .error c ∧ t.faulted = true ∧ t.faultCode = c.bits) ∨
      SameFaultRecord s t := by
  rcases step_cases h with ⟨hready, hvalid, -, h⟩ | ⟨i, rest, hi, -, h⟩
  · obtain ⟨hp, hf⟩ := (reqReady_iff s).1 hready
    rcases exec_faultRecord h with ⟨c, hc, hfault⟩ | hsame
    · exact .inl ⟨⟨hp, hf, hvalid⟩, c, classify_of_fault hc, hfault⟩
    · exact .inr hsame
  · have hne : i ≠ .reset := by simpa [hi] using hreset
    exact .inr (onInput_faultRecord (s := s.setInputs rest) hne h)

/-- Settles O36: the one step that moves the record is an acceptance, so the block was not faulted before it. -/
theorem faultRecordChangesOnlyByFaultEntryAndReset : Obligations.FaultRecordChangesOnlyByFaultEntryAndReset := by
  intro s t h hreset
  have hnoAccept (hf : s.faulted = true) (cmd : Cmd) : .accept cmd ∉ t.events.drop s.events.length := fun hcmd => by
    obtain ⟨-, hnot, -⟩ := accepts_of_accept_recorded h hcmd
    simp [hf] at hnot
  rcases step_faultRecord h hreset with ⟨hs, c, hword, hfault, hcode⟩ | ⟨hfault, hcode⟩
  · have ⟨_, hnot, _⟩ := hs
    exact ⟨by simp [hnot], fun _ _ => ⟨hs, c, hword, hcode⟩, by simp [hfault]⟩
  · exact ⟨fun hf => ⟨hfault.trans hf, hcode, hnoAccept hf⟩, fun hf ht => by simp [hfault, hf] at ht, fun _ _ => hcode⟩

end Sys2Proof.Proofs
end

section
/-! SUPPORT. A stalled block: one that can do nothing, now or later, unless something comes that is not in its list. The
hang of R118 and the faulted block of R114 are its two kinds. -/

namespace Sys2Proof.Proofs

open Sys2Proof.Machine Sys2Proof.Safety Sys2Proof.Laws

/-! What a row of the table needs (R93). -/

/-- No row is enabled without a request to accept, a completion in a phase that waits, a take in RESP or a reset. -/
theorem trigger_of_tableRow {s t : State} (h : TableRow s t) :
    Accepts s ∨ (s.phase ≠ .idle ∧ ∃ d, s.inputs.head? = some (.done d)) ∨ s.phase = .resp ∨
      s.inputs.head? = some .reset := by
  have ofDone {p : Phase} {d : List Byte} (hp : s.phase = p) (hne : p ≠ .idle)
      (on : s.inputs.head? = some (.done d)) : s.phase ≠ .idle ∧ ∃ d, s.inputs.head? = some (.done d) :=
    ⟨hp ▸ hne, d, on⟩
  cases h with
  | acceptFault c from_ => exact .inl from_
  | acceptWrite a n from_ => exact .inl from_
  | acceptRead a n from_ => exact .inl from_
  | acceptBurst from_ => exact .inl from_
  | acceptDecode24 from_ => exact .inl from_
  | acceptDecodeWindow from_ => exact .inl from_
  | writeDone op d from_ on => exact .inr (.inl (ofDone from_ nofun on))
  | readAddrDone op d from_ on => exact .inr (.inl (ofDone from_ nofun on))
  | readAddrOnlyDone op d from_ on => exact .inr (.inl (ofDone from_ nofun on))
  | readDataDone op d from_ on => exact .inr (.inl (ofDone from_ nofun on))
  | burstCmdDone op d f from_ on => exact .inr (.inl (ofDone from_ nofun on))
  | burstDataDone op d from_ on => exact .inr (.inl (ofDone from_ nofun on))
  | take from_ => exact .inr (.inr (.inl from_))
  | reset on => exact .inr (.inr (.inr on))

/-! Moves of the outside world, one after another. -/

theorem outsideMoves_refl (s : State) : OutsideMoves s s := ⟨_, _, _, _, _, _, rfl⟩

theorem outsideMoves_trans {s t u : State} (h : OutsideMoves s t) (h' : OutsideMoves t u) : OutsideMoves s u := by
  obtain ⟨_, _, _, _, _, _, rfl⟩ := h
  obtain ⟨_, _, _, _, _, _, rfl⟩ := h'
  exact ⟨_, _, _, _, _, _, rfl⟩

/-! Stalled states. -/

/-- The block accepts nothing, and nothing in the list of what is to come triggers a row of R93. -/
structure Stalled (s : State) : Prop where
  notReady : s.reqReady = false
  notResponding : s.phase ≠ .resp
  noCompletion : s.phase ≠ .idle → ∀ d, .done d ∉ s.inputs
  noReset : .reset ∉ s.inputs

theorem outsideMoves_of_stalled {s t : State} (hs : Stalled s) (h : step s = .next t) : OutsideMoves s t := by
  refine (stepFollowsTheStepRelation s t h).resolve_left fun hrow => ?_
  rcases trigger_of_tableRow hrow with ⟨hp, hf, -⟩ | ⟨hp, d, hd⟩ | hp | hreset
  · have hready := (reqReady_iff s).2 ⟨hp, hf⟩
    simp [hs.notReady] at hready
  · exact hs.noCompletion hp d (List.mem_of_head? hd)
  · exact hs.notResponding hp
  · exact hs.noReset (List.mem_of_head? hreset)

theorem step_keeps_stalled {s t : State} (hs : Stalled s) (h : step s = .next t) : Stalled t := by
  have hmem (i : Input) : i ∈ t.inputs → i ∈ s.inputs := step_inputs_mem h
  obtain ⟨_, _, _, _, _, _, rfl⟩ := outsideMoves_of_stalled hs h
  exact ⟨hs.notReady, hs.notResponding, fun hp d hd => hs.noCompletion hp d (hmem _ hd),
    fun hr => hs.noReset (hmem _ hr)⟩

/-- A stalled block stays as it is for any number of steps. -/
theorem runSteps_of_stalled {k : Nat} {s t : State} (hs : Stalled s) (h : runSteps k s = .next t) :
    OutsideMoves s t := by
  have hkeep (u v : State) (hu : Stalled u ∧ OutsideMoves s u) (huv : step u = .next v) :
      Stalled v ∧ OutsideMoves s v :=
    have ⟨hstalled, hmoves⟩ := hu
    ⟨step_keeps_stalled hstalled huv, outsideMoves_trans hmoves (outsideMoves_of_stalled hstalled huv)⟩
  obtain ⟨-, hmoves⟩ := runSteps_keeps hkeep ⟨hs, outsideMoves_refl s⟩ h
  exact hmoves

theorem step_of_reset {s : State} {rest : List Input} (hi : s.inputs = .reset :: rest) :
    step s = .next (s.setInputs rest).resetBlock :=
  step_input hi (.inl rfl)

/-! The hang (R118). -/

theorem stalled_of_waiting {s : State} (hidle : s.phase ≠ .idle) (hresp : s.phase ≠ .resp)
    (hin : ∀ i ∈ s.inputs, isDoneOrReset i = false) : Stalled s where
  notReady := reqReady_false_of_phase hidle
  notResponding := hresp
  noCompletion _ _ hd := by simpa [isDoneOrReset] using hin _ hd
  noReset hr := by simpa [isDoneOrReset] using hin _ hr

theorem stuckReason_of_waiting {s : State} (hidle : s.phase ≠ .idle) (hresp : s.phase ≠ .resp) :
    stuckReason s = .hang := by
  cases hp : s.phase with
  | idle => exact absurd hp hidle
  | resp => exact absurd hp hresp
  | wFrame | rAddr | rData | bCmd | bData => simp [stuckReason, hp]

/-- Settles O34: the waiting block is stalled, so a run leaves it as it is. -/
theorem outstandingOperationHangs : Obligations.OutstandingOperationHangs := by
  intro s op hop hidle hresp hcs
  refine ⟨fun hin => ⟨fun k t h => ?_, fun hnil => ?_⟩, fun rest hi => ?_⟩
  · obtain ⟨_, _, _, _, _, _, rfl⟩ := runSteps_of_stalled (stalled_of_waiting hidle hresp hin) h
    have hbusy : s.busy = true := (busy_iff s).2 hidle
    have hvalid : s.rspValid = false := by simpa [← rspValid_iff] using hresp
    exact ⟨rfl, hop, hcs, (status_busy_bit s).trans hbusy, hvalid, rfl⟩
  · rw [step_stuck hnil (.inl (reqReady_false_of_phase hidle)), stuckReason_of_waiting hidle hresp]
  · exact ⟨_, step_of_reset hi, rfl, rfl, rfl, rfl⟩

/-! The faulted block (R114). -/

theorem reqReady_false_of_faulted {s : State} (hf : s.faulted = true) : s.reqReady = false := by
  simp [State.reqReady, hf]

theorem stalled_of_faulted {s : State} (hp : s.phase = .idle) (hf : s.faulted = true)
    (hin : ∀ i ∈ s.inputs, i ≠ .reset) : Stalled s where
  notReady := reqReady_false_of_faulted hf
  notResponding := by simp [hp]
  noCompletion hne := absurd hp hne
  noReset hr := hin _ hr rfl

theorem stuckReason_of_faulted {s : State} (hp : s.phase = .idle) (hf : s.faulted = true) :
    stuckReason s = .waitReset := by
  simp [stuckReason, hp, hf]

/-- Settles O35: the faulted block is stalled when idle, so a run leaves it as it is. -/
theorem faultIsSticky : Obligations.FaultIsSticky := by
  intro s hp hf hcs
  refine ⟨fun hin => ⟨fun k t h => ?_, fun hnil => ?_⟩, fun rest hi => ?_⟩
  · obtain ⟨_, _, _, _, _, _, rfl⟩ := runSteps_of_stalled (stalled_of_faulted hp hf hin) h
    exact ⟨hp, hf, rfl, hcs, reqReady_false_of_faulted hf, rfl⟩
  · rw [step_stuck hnil (.inl (reqReady_false_of_faulted hf)), stuckReason_of_faulted hp hf]
  · exact ⟨_, step_of_reset hi, rfl, rfl, rfl⟩

end Sys2Proof.Proofs
end

section
/-! SUPPORT. Reset (R130 to R132): the state it leaves, and the completion of the operation it abandons. -/

namespace Sys2Proof.Proofs

open Sys2Proof.Machine Sys2Proof.Safety Sys2Proof.Laws

/-! Reset values (R34, R130, R132). -/

theorem status_eq_zero {s : State} (hp : s.phase = .idle) (hf : s.faulted = false) (hc : s.faultCode = 0#2) :
    s.status = 0x00#8 := by
  simp [State.status, State.busy, hp, hf, hc]

/-- Settles O27: a reset goes before everything else, and the state it leaves holds these values. -/
theorem resetGivesResetValues : Obligations.ResetGivesResetValues := by
  intro s rest hi
  have hstatus : (s.setInputs rest).resetBlock.status = 0x00#8 := status_eq_zero rfl rfl rfl
  have hdraws : s.draws < (s.setInputs rest).resetBlock.draws := Nat.lt_succ_self s.draws
  exact ⟨_, step_of_reset hi, rfl, rfl, rfl, rfl, rfl, hstatus, rfl, rfl, rfl, fun _ => rfl, rfl, rfl, rfl, rfl,
    hdraws, rfl, rfl, rfl, rfl, rfl, rfl, rfl, rfl, drawBytes_toList 63 _, drawBytes_toList 32 _,
    drawBytes_toList 63 _⟩

/-! The abandoned operation (R131). -/

theorem abandonedNow_of_outstanding {s : State} {op : BusOp} (h : s.busOp = some op) : abandonedNow s = 1 := by
  simp [abandonedNow, h]

theorem resetEvents_of_open_window {s : State} (h : s.csN = false) : resetEvents s = [.reset, .csDeassert] := by
  simp [resetEvents, h]

/-- A late completion that is due is ignored. -/
theorem onLateDone_of_due {s : State} {k : Nat} (h : s.abandoned = k + 1) :
    onLateDone s = .next { s with abandoned := k } := by
  simp [onLateDone, h]

theorem step_of_lateDone {s : State} {k : Nat} {rest : List Input} (hi : s.inputs = .lateDone :: rest)
    (hvalid : s.reqValid = false) (hdue : s.abandoned = k + 1) :
    step s = .next { s with abandoned := k, inputs := rest } :=
  (step_input hi (.inr (.inr hvalid))).trans (onLateDone_of_due hdue)

/-- Settles O28: the reset counts the outstanding operation as one more completion due, and the late completion takes
that count back. -/
theorem resetAbandonsTheTransaction : Obligations.ResetAbandonsTheTransaction := by
  intro s op rest hop hcs hvalid hi
  have hdue : (s.setInputs (.lateDone :: rest)).resetBlock.abandoned = s.abandoned + 1 := by
    simp [abandonedNow_of_outstanding hop]
  have hevents : (s.setInputs (.lateDone :: rest)).resetBlock.events = s.events ++ [.reset, .csDeassert] := by
    simp [resetEvents_of_open_window hcs]
  exact ⟨_, _, step_of_reset hi, step_of_lateDone rfl hvalid hdue, rfl, rfl, rfl, hdue, hevents, rfl⟩

end Sys2Proof.Proofs
end

section
/-! SUPPORT. The words of the decode table: each is the word of the request beside it, so it decodes to that request. -/

namespace Sys2Proof.Proofs

theorem decode_eq_of_encode_eq {cmd : Cmd} {i : Instr} (h : encode i = cmd) : decode cmd = i :=
  h ▸ decodeEncodeRoundTrip i

/-- Settles O6: each word is what the formula of R66 gives for its request, and decoding gives the request back. -/
theorem specWordsDecode : Obligations.SpecWordsDecode := by
  unfold Obligations.SpecWordsDecode
  and_intros <;> exact decode_eq_of_encode_eq rfl

end Sys2Proof.Proofs
end
